-- ==== Sys2Proof/Word.lean ====
section
/-! DEFINITION. The word types of EP-SENSOR-CORE (spec/00_scope.md R11, spec/10_state.md) and the
transaction direction, which both a command's operand and STATUS.TXN_DIR hold. -/

namespace Sys2Proof

/-- A 32-bit command word or register value (R17, R61). -/
abbrev Word := BitVec 32

/-- A byte of BUF, of the bus, or a BusStatus code (R9, R32, R51). -/
abbrev Byte := BitVec 8

/-- A raw 20-bit humidity or temperature field (FIELD_W of R7, R90). -/
abbrev Field := BitVec 20

/-- A 7-bit bus device address (R40). -/
abbrev DeviceAddr := BitVec 7

/-- TransactionDirection (glossary of spec/00_scope.md): Write is 0, Read is 1. -/
inductive Direction where
  | write
  | read
  deriving DecidableEq, Repr, Inhabited

/-- The direction as the low bit of the address-phase byte and as STATUS.TXN_DIR (R23, R50). -/
def Direction.bit : Direction → BitVec 1
  | .write => 0
  | .read => 1

/-- The direction a one-bit operand d names (R61, R63). -/
def Direction.ofBit (d : BitVec 1) : Direction :=
  if d = 1 then .read else .write

end Sys2Proof
end

