-- ==== Sys2Proof/Syntax.lean ====
section
/-! DEFINITION. The commands of EP-SENSOR-CORE, one constructor per row of spec/opcode_table.json, with
the operands of R61 and R63. -/

namespace Sys2Proof

/-- A command: one 32-bit word a HOST writes to CMD (R61, R64). -/
inductive Instr where
  /-- CFG b: set the bus clock divisor (R73). -/
  | cfg (b : Byte)
  /-- START: emit a START or a repeated START (R74). -/
  | start
  /-- STOP: emit a STOP (R75). -/
  | stop
  /-- WRB b: send one byte (R76). -/
  | wrb (b : Byte)
  /-- RDB d: receive one byte, answering ACK (`true`) or NACK (R77). -/
  | rdb (ack : Bool)
  /-- OPEN a, d: open a transaction to device `a7` in direction `d` (R82). -/
  | openTxn (a7 : DeviceAddr) (d : Direction)
  /-- WRSEQ n: send BUF[0..n-1]; `n` is the count, field value + 1 (R63, R83). -/
  | wrseq (n : BitVec 4)
  /-- RDSEQ n: receive n bytes into BUF[0..n-1]; `n` is the count, field value + 1 (R63, R84). -/
  | rdseq (n : BitVec 4)
  /-- CLOSE: end the transaction (R85). -/
  | close
  /-- DECODE: decode BUF[0..5] as a RawFrame (R94). -/
  | decode
  /-- FPUSH: push the last decoded sample into the window (R101). -/
  | fpush
  /-- MEASURE: run one acquisition cycle (R95). -/
  | measure
  deriving DecidableEq, Repr

end Sys2Proof
end

