-- ==== Sys2Proof/WellFormed.lean ====
section
/-! DEFINITION. Which terms of `Instr` are spelled by some command word: the ranges of R63 and R67. The
operands b, a7 and d are exactly as wide as their fields; only a byte count can be out of range. -/

namespace Sys2Proof

/-- A byte count of WRSEQ and RDSEQ: n in 1..8, "so a count of 0 cannot be written" (R63). -/
def countOk (n : BitVec 4) : Bool :=
  decide (1 ≤ n.toNat ∧ n.toNat ≤ 8)

/-- "An operand out of its range spells no command" (R67). -/
def Instr.wf : Instr → Bool
  | .cfg _ => true
  | .start => true
  | .stop => true
  | .wrb _ => true
  | .rdb _ => true
  | .openTxn _ _ => true
  | .wrseq n => countOk n
  | .rdseq n => countOk n
  | .close => true
  | .decode => true
  | .fpush => true
  | .measure => true

end Sys2Proof
end

