-- ==== Sys2Proof/Decode.lean ====
section
/-! DEFINITION. The decoder of R63 to R66, written from the opcode map of spec/30_encoding.md (a match and
a mask per row), and after it the encoder, written from the one command format of R61. -/

namespace Sys2Proof

/-- Why a word is illegal: the three cases of R66. -/
inductive DecodeError where
  /-- op = 0x0 or op in 0xD..0xF. -/
  | noSuchOpcode
  /-- A bit of [31:23] is 1. -/
  | reservedBits
  /-- A bit of a field the opcode does not use is 1. -/
  | unusedField
  deriving DecidableEq, Repr

/-- The rows of the opcode map (R64). -/
inductive Opcode where
  | cfg
  | start
  | stop
  | wrb
  | rdb
  | openTxn
  | wrseq
  | rdseq
  | close
  | decode
  | fpush
  | measure
  deriving DecidableEq, Repr

/-- The rows in the order of the table. -/
def Opcode.all : List Opcode :=
  [.cfg, .start, .stop, .wrb, .rdb, .openTxn, .wrseq, .rdseq, .close, .decode, .fpush, .measure]

/-- The `match` column of R64. -/
def Opcode.pattern : Opcode → Word
  | .cfg => 0x00000001
  | .start => 0x00000002
  | .stop => 0x00000003
  | .wrb => 0x00000004
  | .rdb => 0x00000005
  | .openTxn => 0x00000006
  | .wrseq => 0x00000007
  | .rdseq => 0x00000008
  | .close => 0x00000009
  | .decode => 0x0000000A
  | .fpush => 0x0000000B
  | .measure => 0x0000000C

/-- The `mask` column of R64. -/
def Opcode.mask : Opcode → Word
  | .cfg => 0xFFFF00FF
  | .start => 0xFFFFFFFF
  | .stop => 0xFFFFFFFF
  | .wrb => 0xFFFF00FF
  | .rdb => 0xFFFFFFEF
  | .openTxn => 0xFF80FFEF
  | .wrseq => 0xFFFFFF1F
  | .rdseq => 0xFFFFFF1F
  | .close => 0xFFFFFFFF
  | .decode => 0xFFFFFFFF
  | .fpush => 0xFFFFFFFF
  | .measure => 0xFFFFFFFF

/-- "A word w selects a row when (w AND mask) = match" (R64). -/
def Opcode.selects (o : Opcode) (w : Word) : Bool :=
  w &&& o.mask == o.pattern

/-- The op field [3:0] of a word (R61). -/
def fieldOp (w : Word) : BitVec 4 := w.extractLsb' 0 4

/-- The operand d = w[4] (R63). -/
def fieldD (w : Word) : BitVec 1 := w.extractLsb' 4 1

/-- The field w[7:5], the byte count minus 1 (R61). -/
def fieldN (w : Word) : BitVec 3 := w.extractLsb' 5 3

/-- The operand n = zext_4(w[7:5]) + 1 (R63). -/
def countOf (w : Word) : BitVec 4 := (fieldN w).zeroExtend 4 + 1

/-- The operand b = w[15:8] (R63). -/
def fieldB (w : Word) : Byte := w.extractLsb' 8 8

/-- The operand a7 = w[22:16] (R63). -/
def fieldA (w : Word) : DeviceAddr := w.extractLsb' 16 7

/-- The reserved bits w[31:23] (R61). -/
def fieldReserved (w : Word) : BitVec 9 := w.extractLsb' 23 9

/-- The command of a selected row, with the operands of R63. -/
def Opcode.instr (o : Opcode) (w : Word) : Instr :=
  match o with
  | .cfg => .cfg (fieldB w)
  | .start => .start
  | .stop => .stop
  | .wrb => .wrb (fieldB w)
  | .rdb => .rdb (fieldD w == 1)
  | .openTxn => .openTxn (fieldA w) (Direction.ofBit (fieldD w))
  | .wrseq => .wrseq (countOf w)
  | .rdseq => .rdseq (countOf w)
  | .close => .close
  | .decode => .decode
  | .fpush => .fpush
  | .measure => .measure

/-- Which of the cases of R66 makes a word that no row matches illegal. -/
def illegalReason (w : Word) : DecodeError :=
  if fieldOp w = 0 ∨ 0xD ≤ fieldOp w then .noSuchOpcode
  else if fieldReserved w ≠ 0 then .reservedBits
  else .unusedField

/-- The decoding of R65: the row that matches, or the word is illegal. -/
def decodeWord (w : Word) : Except DecodeError Instr :=
  match Opcode.all.find? (fun o => o.selects w) with
  | some o => .ok (o.instr w)
  | none => .error (illegalReason w)

/-- The one command format of R61: reserved bits 0, then the fields a, b, n, d and op. -/
def commandWord (op : BitVec 4) (d : BitVec 1) (n : BitVec 3) (b : Byte) (a : DeviceAddr) : Word :=
  (0 : BitVec 9) ++ a ++ b ++ n ++ d ++ op

/-- The field of a byte count: n - 1 (R61, R67). -/
def countField (n : BitVec 4) : BitVec 3 := (n - 1).truncate 3

/-- The word of a well-formed command (R61, R67). "A field an opcode does not use must be 0." -/
def encode : Instr → Word
  | .cfg b => commandWord 0x1 0 0 b 0
  | .start => commandWord 0x2 0 0 0 0
  | .stop => commandWord 0x3 0 0 0 0
  | .wrb b => commandWord 0x4 0 0 b 0
  | .rdb ack => commandWord 0x5 (BitVec.ofBool ack) 0 0 0
  | .openTxn a7 d => commandWord 0x6 d.bit 0 0 a7
  | .wrseq n => commandWord 0x7 0 (countField n) 0 0
  | .rdseq n => commandWord 0x8 0 (countField n) 0 0
  | .close => commandWord 0x9 0 0 0 0
  | .decode => commandWord 0xA 0 0 0 0
  | .fpush => commandWord 0xB 0 0 0 0
  | .measure => commandWord 0xC 0 0 0 0

/-- The word whose low `nbits` bits are those of `w` and whose other bits are 0. A command is one
32-bit word written whole to CMD (R62), so the table's bit numbers are the word's own. -/
def tableWord (nbits w : Nat) : Word := BitVec.ofNat 32 (w % 2 ^ nbits)

/-- What the decoder reads from a word numbered as spec/opcode_table.json numbers it. -/
def decodeTableWord (nbits w : Nat) : Option Instr :=
  match decodeWord (tableWord nbits w) with
  | .ok i => some i
  | .error _ => none

end Sys2Proof
end

