-- ==== Sys2Proof/Config.lean ====
section
/-! DEFINITION. What an implementation of EP-SENSOR-CORE fixes: the constants of R7, the parameters of
R8 and R9, and the values no rule fixes (draws), which are opaque. -/

namespace Sys2Proof

/-- The bus status code map ST_* of R9, a parameter. -/
structure StatusMap where
  start : Byte
  repStart : Byte
  slawAck : Byte
  slawNack : Byte
  txdAck : Byte
  txdNack : Byte
  slarAck : Byte
  slarNack : Byte
  rxdAck : Byte
  rxdNack : Byte
  noStatus : Byte
  deriving DecidableEq, Repr, Inhabited

/-- The defaults of R9 (D10): the status codes of the AVR two-wire interface. PRESUMED by the spec
itself ("from general knowledge, not in source"), notes/assumptions/3. -/
def StatusMap.default : StatusMap where
  start := 0x08
  repStart := 0x10
  slawAck := 0x18
  slawNack := 0x20
  txdAck := 0x28
  txdNack := 0x30
  slarAck := 0x40
  slarNack := 0x48
  rxdAck := 0x50
  rxdNack := 0x58
  noStatus := 0xF8

/-- A status map is well formed when the four pairs of R9 differ. -/
def StatusMap.wf (m : StatusMap) : Bool :=
  m.start != m.repStart && m.slawAck != m.slawNack && m.slarAck != m.slarNack
    && m.rxdAck != m.rxdNack

/-- The implementation parameters of R8. They are data of the machine that no step writes; every
statement about a state holds for every value of them. -/
structure Params where
  /-- P_BASE: the base address of the 64-byte register window (OPEN, D3). -/
  pBase : Nat
  /-- P_WAIT_BOUND: 0 makes every bus wait unbounded (D13). Only whether it is 0 matters (R118). -/
  waitBound : Nat
  /-- P_SETTLE: the length of the settling delay (OPEN, D25). No rule depends on it (R134), so
  nothing in the model reads it. -/
  settle : Nat
  /-- P_BUSY_RETRIES: 0 to 15 (D24). -/
  busyRetries : BitVec 4
  /-- P_ABORT_STOP: whether a failed transaction emits one STOP (D12). -/
  abortStop : Bool
  /-- ST_*: the bus status code map (D10). -/
  st : StatusMap
  deriving DecidableEq, Repr, Inhabited

/-- The parameters as the spec decides them. The three numbers it leaves OPEN (P_BASE, P_SETTLE, and
P_WAIT_BOUND beyond being nonzero) are DESIGN CHOICES of this instance of the machine,
notes/assumptions/2. -/
def Params.decided : Params where
  pBase := 0
  waitBound := 1
  settle := 0
  busyRetries := 0
  abortStop := true
  st := StatusMap.default

/-- The answer of the BUS environment to one `BusWait()` (R52, R53). -/
inductive BusAnswer where
  /-- `Done(st, d)`: the bus step completed with BusStatus `st` and data byte `d`. -/
  | done (st d : Byte)
  /-- The bus reports no completion at this draw: `Timeout` when P_WAIT_BOUND ≥ 1 (R118). With
  P_WAIT_BOUND = 0 the wait goes on; a bus that never answers is `silent` at every draw (R53),
  notes/assumptions/7. -/
  | silent
  deriving DecidableEq, Repr, Inhabited

namespace Config

/-- SENSOR_ADDR (R7). -/
def sensorAddr : DeviceAddr := 0x38

/-- TRIGGER: the three command bytes, in order (R7). -/
def trigger : Vector Byte 3 := #v[0xAC, 0x33, 0x00]

/-- FRAME_LEN: the length of a RawFrame (R7). -/
def frameLen : Nat := 7

/-- WINDOW: the number of slots of the smoothing window (R7). -/
def window : Nat := 3

/-- The bus's answers where `State.answers` lists none: a draw, constrained by no rule (R52,
"every rule holds for every st and every d"). A free value, notes/assumptions/4. -/
opaque busAnswer : Nat → BusAnswer

/-- What a HOST read of BUF, RAW or AVG registers returns while BUSY = 1: "any 32-bit value (a draw)"
(R43). A free value, notes/assumptions/5. -/
opaque busyRead : Nat → Word

end Config

end Sys2Proof
end

