-- ==== Sys2Proof/Machine/State.lean ====
section
/-! DEFINITION. The state of EP-SENSOR-CORE: the registers and internal state of spec/10_state.md (R14), the
sequencer's position (R38), the event history H (R51), and the environment of the model as plain data
(the turns the agents take, the bus answers to come, the values the HOST read). Reset values are R39's. -/

namespace Sys2Proof.Machine

/-- The 4-bit result codes of R108; the codes 8 to 15 are never produced, so they have no name. -/
inductive Result where
  | none
  | ok
  | addrNack
  | protocolFault
  | busTimeout
  | sensorBusy
  | usage
  | illegal
  deriving DecidableEq, Repr

/-- The states of STATUS.SEQ_STATE (R28); the values 7 to 15 are never produced. -/
inductive SeqState where
  | idle
  | triggering
  | settling
  | reading
  | decoding
  | ready
  | invalid
  deriving DecidableEq, Repr

/-- The events of the history H (R51). -/
inductive BusEvent where
  /-- S: a START condition. -/
  | start
  /-- Sr: a repeated START condition. -/
  | repStart
  /-- P: a STOP condition, not waited for. -/
  | stop
  /-- TX(b): a byte sent. -/
  | tx (b : Byte)
  /-- RX(a): a byte received and answered with acknowledge (`true`) or no-acknowledge. -/
  | rx (ack : Bool)
  /-- SETTLE: the marker of the settling delay. -/
  | settle
  deriving DecidableEq, Repr

/-- The SEQUENCER's position: the step it takes next in the pseudocode of the command in CMDLATCH, with
the loop index (R38). The step granularity is R54's: a waited event with its answer, a `Settle`, a
command end. -/
inductive SeqPos where
  /-- The first step of a command; with BUSY = 0, no command is in progress. -/
  | first
  /-- OPEN: the address-phase byte of OpenSeq (R79). -/
  | address
  /-- WRSEQ, RDSEQ: byte `i` of WriteSeq or ReadSeq (R80, R81). -/
  | data (i : Fin 8)
  /-- MEASURE: OpenSeq of a cycle restarted by the busy retry (R95). -/
  | trigStart
  /-- MEASURE: the address-phase byte of the trigger write. -/
  | trigAddress
  /-- MEASURE: byte `i` of the trigger command. -/
  | trigData (i : Fin 3)
  /-- MEASURE: the `Settle()` step (R117). -/
  | settling
  /-- MEASURE: OpenSeq of the frame read. -/
  | readStart
  /-- MEASURE: the address-phase byte of the frame read. -/
  | readAddress
  /-- MEASURE: byte `i` of the frame. -/
  | readData (i : Fin 7)
  /-- The command end, `finish r` (R107). -/
  | ending (r : Result)
  deriving DecidableEq, Repr

/-- A HOST access to an address with a width in bytes (R42; `MemRead` and `MemWrite` of R12). -/
inductive HostAccess where
  | read (addr width : Nat)
  | write (addr width : Nat) (v : Word)
  deriving DecidableEq, Repr

/-- One turn of the model's agents (R10, R54): the interleaving of HOST and SEQUENCER is data. -/
inductive Turn where
  /-- One HOST access. -/
  | host (a : HostAccess)
  /-- WAIT of R69: the HOST reads STATUS, again and again, until it reads BUSY = 0; each read is a step, and
  between two of them the SEQUENCER takes one (DESIGN CHOICE, notes/assumptions/8). -/
  | wait
  /-- The reset input (R123). -/
  | reset
  /-- One step of the SEQUENCER. -/
  | sequencer
  deriving DecidableEq, Repr

/-- The state of the block, and of the model around it. -/
structure State where
  /-- The implementation parameters of R8. Not state of the block (R14): no step writes them. -/
  params : Params
  /-- CMDLATCH: the word of the command being executed (R37). -/
  cmdLatch : Word
  /-- STATUS.BUSY (R20). -/
  busy : Bool
  /-- STATUS.CONFIGURED (R21). -/
  configured : Bool
  /-- STATUS.BUS_ACTIVE (R22). -/
  busActive : Bool
  /-- STATUS.TXN_OPEN (R23). -/
  txnOpen : Bool
  /-- STATUS.TXN_DIR (R23). -/
  txnDir : Direction
  /-- STATUS.DEC_VALID (R24). -/
  decValid : Bool
  /-- STATUS.ERR, sticky (R25). -/
  err : Bool
  /-- STATUS.OVERRUN, sticky (R26). -/
  overrun : Bool
  /-- STATUS.RESULT (R27). -/
  result : Result
  /-- STATUS.SEQ_STATE (R28). -/
  seqState : SeqState
  /-- STATUS.LAST_BUS_STATUS (R29). -/
  lastBusStatus : Byte
  /-- STATUS.RETRIES (R30). -/
  retries : BitVec 4
  /-- CONFIG.BUS_DIV (R31). -/
  busDiv : Byte
  /-- BUF[0..7], read and written by the HOST as BUF0 and BUF1 (R32, R33). -/
  buf : Vector Byte 8
  /-- RAW_H[19:0] (R34). -/
  rawH : Field
  /-- RAW_T[19:0] (R34). -/
  rawT : Field
  /-- WIN_H[0..2], the humidity slots of the filter window (R35). -/
  winH : Vector Field 3
  /-- WIN_T[0..2], the temperature slots of the filter window (R35). -/
  winT : Vector Field 3
  /-- WR_IDX: the slot the next push writes, 0..2 (R36). -/
  wrIdx : Fin 3
  /-- COUNT: the number of populated slots, 0..3, read as AVG_COUNT (R36). -/
  count : BitVec 2
  /-- The SEQUENCER's position (R38). -/
  pos : SeqPos
  /-- H, the event history, oldest event first; "a model records" it (R51). -/
  history : List BusEvent
  /-- The model's own: the bus answers to come, next one first; after them `Config.busAnswer` (R52). -/
  answers : List BusAnswer
  /-- The model's own: the turns to come, next one first; after them the SEQUENCER moves (R54). -/
  agenda : List Turn
  /-- The model's own: how many opaque draws have been taken. -/
  draws : Nat
  /-- The model's own: the values the HOST's reads returned, oldest first (R59, "HOST gets back"). -/
  hostReads : List Word
  deriving DecidableEq, Repr

/-- What stops the machine with a fault. Neither is raised in a state a run reaches
(`Sys2Proof.State.Inv` of Safety.lean). -/
inductive Fault where
  /-- Raised by a command whose meaning has no step at the position in `State.pos`. Safe: the model
  stops, and no state in which CMDLATCH and the position belong together raises it. -/
  | lostPosition
  /-- Raised by WRSEQ and RDSEQ for a count outside 1..8, which no command word spells (R63, R67).
  Safe: the model stops, and the decoder gives no such command. -/
  | illFormedCount
  deriving DecidableEq, Repr

/-- Why the model has no step for what was asked of it. -/
inductive Refusal where
  /-- Raised by `exec` for an instruction that has no meaning yet. Safe: the model stops. -/
  | notModelled (mnemonic : String)
  /-- Raised by a HOST access whose width is not 4 bytes: "No other access exists" (R42). Safe: the
  spec itself says a model refuses it. -/
  | accessWidth
  /-- Raised by a HOST access whose offset is not a multiple of 4 (R42). Safe, as `accessWidth`. -/
  | accessMisaligned
  /-- Raised by a HOST access that crosses or lies outside the 64-byte window (R41, R42). Safe: what lies outside
  belongs to the platform. -/
  | accessOutsideWindow
  deriving DecidableEq, Repr

/-- The state right after reset of a block with parameters `p` (R39, R123). CMDLATCH and the window slots
are "unspecified, never read": the model names them 0, notes/assumptions/1. No turn, no bus answer
and no draw stands in the environment. -/
def State.resetWith (p : Params) : State where
  params := p
  cmdLatch := 0
  busy := false
  configured := false
  busActive := false
  txnOpen := false
  txnDir := .write
  decValid := false
  err := false
  overrun := false
  result := .none
  seqState := .idle
  lastBusStatus := p.st.noStatus
  retries := 0
  busDiv := 0x00
  buf := #v[0, 0, 0, 0, 0, 0, 0, 0]
  rawH := 0
  rawT := 0
  winH := #v[0, 0, 0]
  winT := #v[0, 0, 0]
  wrIdx := 0
  count := 0
  pos := .first
  history := []
  answers := []
  agenda := []
  draws := 0
  hostReads := []

/-- The machine right after reset, with the parameters the spec decides. -/
def State.reset : State := State.resetWith Params.decided

end Sys2Proof.Machine
end

