-- ==== Sys2Proof/Machine/Operands.lean ====
section
/-! DEFINITION. The operands of commands: the byte count and its loop, the address-phase byte, the bytes of
BUF and the frame fields. -/

namespace Sys2Proof.Machine

/-- Whether byte `i` is the last of `n` bytes: i = n-1 (R81). -/
def isLast (n : Nat) (i : Nat) : Bool := decide (n ≤ i + 1)

/-- The address-phase byte `a7[6:0] ++ d` (R50). -/
def addressByte (a7 : DeviceAddr) (d : Direction) : Byte := a7 ++ d.bit

/-- BUF0 and BUF1 as words: BUF[k] at bits 8*(k mod 4) (R33). -/
def packWord (b0 b1 b2 b3 : Byte) : Word := b3 ++ b2 ++ b1 ++ b0

/-- BUF0 (offset 0x0C): BUF[0] to BUF[3] (R33). -/
def State.buf0 (s : State) : Word := packWord s.buf[0] s.buf[1] s.buf[2] s.buf[3]

/-- BUF1 (offset 0x10): BUF[4] to BUF[7] (R33). -/
def State.buf1 (s : State) : Word := packWord s.buf[4] s.buf[5] s.buf[6] s.buf[7]

/-- Byte `k` of a word, counted from bit 0. -/
def byteOf (v : Word) (k : Nat) : Byte := v.extractLsb' (8 * k) 8

/-- The busy bit f[0][7] of the frame in BUF (R89, R91). -/
def State.frameBusy (s : State) : Bool := s.buf[0].getLsbD 7

/-- The humidity field `f[1] ++ f[2] ++ f[3][7:4]` of a frame (R90). -/
def rawHumidity (f1 f2 f3 : Byte) : Field := f1 ++ f2 ++ f3.extractLsb' 4 4

/-- The temperature field `f[3][3:0] ++ f[4] ++ f[5]` of a frame (R90). -/
def rawTemperature (f3 f4 f5 : Byte) : Field := f3.extractLsb' 0 4 ++ f4 ++ f5

/-- raw_h of the frame in BUF (R90, R94). -/
def State.frameH (s : State) : Field := rawHumidity s.buf[1] s.buf[2] s.buf[3]

/-- raw_t of the frame in BUF (R90, R94). -/
def State.frameT (s : State) : Field := rawTemperature s.buf[3] s.buf[4] s.buf[5]

end Sys2Proof.Machine
end

