-- ==== Sys2Proof/Machine/Flags.lean ====
section
/-! DEFINITION. STATUS and the other registers as the HOST reads them: codes, field positions and the
window sums (spec/10_state.md R19, R27, R28; spec/43_filter.md R102; spec/60_exceptions.md R108). -/

namespace Sys2Proof.Machine

/-- The code of a result (R108). -/
def Result.code : Result → BitVec 4
  | .none => 0
  | .ok => 1
  | .addrNack => 2
  | .protocolFault => 3
  | .busTimeout => 4
  | .sensorBusy => 5
  | .usage => 6
  | .illegal => 7

/-- The results that set ERR: USAGE and ILLEGAL (R25, R107). -/
def Result.setsErr : Result → Bool
  | .usage => true
  | .illegal => true
  | _ => false

/-- The code of a SEQ_STATE (R28). -/
def SeqState.code : SeqState → BitVec 4
  | .idle => 0
  | .triggering => 1
  | .settling => 2
  | .reading => 3
  | .decoding => 4
  | .ready => 5
  | .invalid => 6

/-- BUS_ACTIVE after an emitted event: 1 after S or Sr, 0 after P, else as it was (R22). -/
def BusEvent.busActiveAfter (e : BusEvent) (active : Bool) : Bool :=
  match e with
  | .start => true
  | .repStart => true
  | .stop => false
  | .tx _ => active
  | .rx _ => active
  | .settle => active

/-- STATUS with the field positions of R19; bits [31:28] are reserved and read 0. -/
def State.statusWord (s : State) : Word :=
  (0 : BitVec 4) ++ s.retries ++ s.lastBusStatus ++ s.seqState.code ++ s.result.code
    ++ BitVec.ofBool s.overrun ++ BitVec.ofBool s.err ++ BitVec.ofBool s.decValid ++ s.txnDir.bit
    ++ BitVec.ofBool s.txnOpen ++ BitVec.ofBool s.busActive ++ BitVec.ofBool s.configured
    ++ BitVec.ofBool s.busy

/-- The sum of the first `c` slots of a window (R102); a slot i ≥ c is not read. -/
def windowSum (w : Vector Field 3) (c : Nat) : Nat :=
  ((w.toList.take c).map BitVec.toNat).sum

/-- AVG_H_SUM, computed at every read (R102). -/
def State.avgHSum (s : State) : BitVec 22 := BitVec.ofNat 22 (windowSum s.winH s.count.toNat)

/-- AVG_T_SUM, computed at every read (R102). -/
def State.avgTSum (s : State) : BitVec 22 := BitVec.ofNat 22 (windowSum s.winT s.count.toNat)

end Sys2Proof.Machine
end

