-- ==== Sys2Proof/Machine/Ops.lean ====
section
/-! DEFINITION. The named operations of the pseudocode (R12): `Emit`, `BusWait`, `Stop`, `Settle`, `finish`,
the four procedures of the Transaction Engine (spec/41_transaction.md), `Push`, the decoder, and the
start and the reset of the block. The block takes no trap (R114): an error is `finish` with its code. -/

namespace Sys2Proof.Machine

/-- What the machine answers to one step. -/
abbrev StepOutcome := Host.Outcome State Fault Refusal

/-- `Emit(e)`: append e to H (R51), with the BUS_ACTIVE rule of R22. -/
def State.emit (e : BusEvent) (s : State) : State :=
  { s with history := s.history ++ [e], busActive := e.busActiveAfter s.busActive }

/-- The SEQUENCER goes to a position (R38). -/
def State.goto (p : SeqPos) (s : State) : State := { s with pos := p }

/-- The answer the BUS gives next and the state after it is taken (R52): the first listed answer, and
an opaque draw where none is listed (DESIGN CHOICE, notes/assumptions/4). The counter of the draws is
shared with the HOST's reads while BUSY = 1 (R43): the next draw is a fresh unconstrained value whichever of
the two took the last one, so a bus that was silent may answer at a later draw, with or without a HOST
read between (DESIGN CHOICE, notes/assumptions/7). -/
def State.nextAnswer (s : State) : BusAnswer × State :=
  match s.answers with
  | a :: rest => (a, { s with answers := rest })
  | [] => (Config.busAnswer s.draws, { s with draws := s.draws + 1 })

/-- `Emit(e); x <- BusWait()` of a waited event, with what follows each answer. On `Done(st, d)` the
pseudocode of every command writes LAST_BUS_STATUS first (R29). `none`: with P_WAIT_BOUND = 0 and no
answer at this draw the SEQUENCER has no step (R53). -/
def State.waited (e : BusEvent) (onDone : Byte → Byte → State → State) (onTimeout : State → State)
    (s : State) : Option State :=
  match s.nextAnswer with
  | (.done st d, t) => some (onDone st d { t.emit e with lastBusStatus := st })
  | (.silent, t) => if s.params.waitBound = 0 then none else some (onTimeout (t.emit e))

/-- The outcome of a SEQUENCER step in `s`: where the SEQUENCER has no step, every piece of state of the block
stays as it is, BUSY = 1 with it (R53), and only the draw of the silent bus is taken, so that the next turn
of the SEQUENCER asks the bus again (DEDUCED, and for the draw a DESIGN CHOICE, notes/assumptions/7). -/
def State.stepOr (s : State) (o : Option State) : StepOutcome := .next (o.getD s.nextAnswer.2)

/-- `finish(r)` (R107). No command is in progress afterwards. -/
def State.finish (r : Result) (s : State) : State :=
  { s with result := r, err := s.err || r.setsErr, busy := false, pos := .first }

/-- `Stop()` (R71). -/
def State.stop (s : State) : State := { s.emit .stop with txnOpen := false }

/-- `Settle()` (R117): the marker in H and the delay, one step that asks no draw. -/
def State.settle (s : State) : State := s.emit .settle

/-- What `Fail(r)` does before it returns Err(r) (R78). -/
def State.fail (s : State) : State :=
  if s.params.abortStop then s.stop else { s with txnOpen := false }

/-- S on an idle bus and Sr on an active one (R74, R79). -/
def State.startEvent (s : State) : BusEvent := if s.busActive then .repStart else .start

/-- The status OpenSeq expects after its S or Sr (R79). -/
def State.startExpected (s : State) : Byte :=
  if s.busActive then s.params.st.repStart else s.params.st.start

/-- The first step of `OpenSeq` (R79): S or Sr and its status check. `ok` and `err` are what the command
does at the procedure's next step and on Err(r). -/
def State.openStart (ok : State → State) (err : Result → State → State) (s : State) : Option State :=
  s.waited s.startEvent
    (fun st _ t => if st = s.startExpected then ok t else err .protocolFault t.fail)
    (fun t => err .busTimeout t.fail)

/-- The "address acknowledged" code of a direction (R79). -/
def addrAckCode (m : StatusMap) (d : Direction) : Byte :=
  match d with
  | .write => m.slawAck
  | .read => m.slarAck

/-- The "address not acknowledged" code of a direction (R79). -/
def addrNackCode (m : StatusMap) (d : Direction) : Byte :=
  match d with
  | .write => m.slawNack
  | .read => m.slarNack

/-- The second step of `OpenSeq` (R79): the address-phase byte; the ACK code is compared first (R113). -/
def State.openAddress (a7 : DeviceAddr) (d : Direction) (ok : State → State)
    (err : Result → State → State) (s : State) : Option State :=
  s.waited (.tx (addressByte a7 d))
    (fun st _ t =>
      if st = addrAckCode s.params.st d then ok { t with txnOpen := true, txnDir := d }
      else if st = addrNackCode s.params.st d then err .addrNack t.fail
      else err .protocolFault t.fail)
    (fun t => err .busTimeout t.fail)

/-- One turn of the loop of `WriteSeq` (R80): byte `b` and its status check. -/
def State.writeByte (b : Byte) (ok : State → State) (err : Result → State → State) (s : State) :
    Option State :=
  s.waited (.tx b)
    (fun st _ t => if st = s.params.st.txdAck then ok t else err .protocolFault t.fail)
    (fun t => err .busTimeout t.fail)

/-- The status `ReadSeq` expects for a byte answered with ACK or NACK (R81). -/
def State.rxExpected (s : State) (ack : Bool) : Byte :=
  if ack then s.params.st.rxdAck else s.params.st.rxdNack

/-- One turn of the loop of `ReadSeq` (R81): byte `i`, answered with `ack`; BUF[i] is written only when
its status matched. -/
def State.readByte (i : Fin 8) (ack : Bool) (ok : State → State) (err : Result → State → State)
    (s : State) : Option State :=
  s.waited (.rx ack)
    (fun st d t =>
      if st = s.rxExpected ack then ok { t with buf := t.buf.set i d }
      else err .protocolFault t.fail)
    (fun t => err .busTimeout t.fail)

/-- `raise e` of a command that met Err(e) in a bus step: its end is the next step (R54, R107). -/
def State.raised (r : Result) (s : State) : State := s.goto (.ending r)

/-- `RAW_H <- ...; RAW_T <- ...; DEC_VALID <- 1` for the frame in BUF (R94, R95). -/
def State.decodeFrame (s : State) : State :=
  { s with rawH := s.frameH, rawT := s.frameT, decValid := true }

/-- `Push(h, t)` (R100). -/
def State.push (h t : Field) (s : State) : State :=
  { s with
    winH := s.winH.set s.wrIdx h
    winT := s.winT.set s.wrIdx t
    wrIdx := s.wrIdx + 1
    count := BitVec.ofNat 2 (min (s.count.toNat + 1) 3) }

/-- A HOST write of v to CMD while BUSY = 0 (R44). -/
def State.startCommand (v : Word) (s : State) : State :=
  { s with cmdLatch := v, result := .none, busy := true, pos := .first }

/-- The reset input (R123): every piece of state of the block at its reset value, H empty, no bus event.
The environment (turns, answers, draws, the HOST's values) is not the block's and stays. -/
def State.resetInput (s : State) : State :=
  { State.resetWith s.params with
    answers := s.answers, agenda := s.agenda, draws := s.draws, hostReads := s.hostReads }

end Sys2Proof.Machine
end

