-- ==== Sys2Proof/Machine/Filter.lean ====
section
/-! DEFINITION. The Smoothing Filter command FPUSH (spec/43_filter.md). -/

namespace Sys2Proof.Machine

/-- FPUSH (R101); DEC_VALID is not cleared. -/
def execFpush (s : State) : StepOutcome :=
  match s.pos with
  | .first =>
    if s.decValid then .next ((s.push s.rawH s.rawT).finish .ok)
    else .next (s.finish .usage)
  | _ => .fault .lostPosition

end Sys2Proof.Machine
end

