-- ==== Sys2Proof/Machine/Link.lean ====
section
/-! DEFINITION. The Bus Link Layer commands CFG, START, STOP, WRB and RDB (spec/40_link.md). Each meaning is
one step of the SEQUENCER at the position the state holds (R54). -/

namespace Sys2Proof.Machine

/-- What a link command does after its one bus wait: it ends with OK whatever the status is (R72), or with
BUS_TIMEOUT and no P (R118). -/
def State.linkWait (e : BusEvent) (onDone : Byte → State → State) (s : State) : Option State :=
  s.waited e (fun _ d t => (onDone d t).goto (.ending .ok)) (State.goto (.ending .busTimeout))

/-- CFG (R73). -/
def execCfg (b : Byte) (s : State) : StepOutcome :=
  match s.pos with
  | .first =>
    if s.busActive then .next (s.finish .usage)
    else .next ({ s with busDiv := b, configured := true }.finish .ok)
  | _ => .fault .lostPosition

/-- START (R74). -/
def execStart (s : State) : StepOutcome :=
  match s.pos with
  | .first =>
    if s.configured then s.stepOr (s.linkWait s.startEvent (fun _ t => t))
    else .next (s.finish .usage)
  | .ending r => .next (s.finish r)
  | _ => .fault .lostPosition

/-- STOP (R75). -/
def execStop (s : State) : StepOutcome :=
  match s.pos with
  | .first =>
    if s.configured then .next (s.stop.finish .ok)
    else .next (s.finish .usage)
  | _ => .fault .lostPosition

/-- WRB (R76). -/
def execWrb (b : Byte) (s : State) : StepOutcome :=
  match s.pos with
  | .first =>
    if s.configured && s.busActive then s.stepOr (s.linkWait (.tx b) (fun _ t => t))
    else .next (s.finish .usage)
  | .ending r => .next (s.finish r)
  | _ => .fault .lostPosition

/-- RDB (R77): BUF[0] is written whatever the status is, and not on a timeout. -/
def execRdb (ack : Bool) (s : State) : StepOutcome :=
  match s.pos with
  | .first =>
    if s.configured && s.busActive then
      s.stepOr (s.linkWait (.rx ack) (fun d t => { t with buf := t.buf.set 0 d }))
    else .next (s.finish .usage)
  | .ending r => .next (s.finish r)
  | _ => .fault .lostPosition

end Sys2Proof.Machine
end

