-- ==== Sys2Proof/Machine/Sensor.lean ====
section
/-! DEFINITION. The Sensor Protocol commands DECODE and MEASURE (spec/42_sensor.md). MEASURE's meaning is one
step of the SEQUENCER at the position the state holds (R54). -/

namespace Sys2Proof.Machine

/-- DECODE (R94). -/
def execDecode (s : State) : StepOutcome :=
  match s.pos with
  | .first =>
    if s.frameBusy then .next ({ s with decValid := false }.finish .sensorBusy)
    else .next (s.decodeFrame.finish .ok)
  | _ => .fault .lostPosition

/-- `if r = Err(e): SEQ_STATE <- INVALID; raise e` of MEASURE (R95). -/
def State.measureErr (r : Result) (s : State) : State :=
  { s with seqState := .invalid }.goto (.ending r)

/-- The top of MEASURE's loop (R95): SEQ_STATE <- TRIGGERING, then the first step of OpenSeq. -/
def State.measureTrigger (s : State) : Option State :=
  { s with seqState := .triggering }.openStart (State.goto .trigAddress) State.measureErr

/-- After the last trigger byte (R95): `Stop(); SEQ_STATE <- SETTLING`, up to the Settle step. -/
def State.measureTriggered (s : State) : State :=
  { s.stop with seqState := .settling }.goto .settling

/-- Trigger byte `i` (R95: WriteSeq([0xAC, 0x33, 0x00]); BUF is not used). -/
def State.measureTrigByte (i : Fin 3) (s : State) : Option State :=
  s.writeByte Config.trigger[i]
    (fun t => if isLast 3 i.val then t.measureTriggered else t.goto (.trigData (i + 1)))
    State.measureErr

/-- `RAW_H <- ...; RAW_T <- ...; DEC_VALID <- 1; Push(RAW_H, RAW_T); SEQ_STATE <- READY` (R95). -/
def State.measureReady (s : State) : State :=
  { s.decodeFrame.push s.decodeFrame.rawH s.decodeFrame.rawT with seqState := .ready }

/-- The Decoding state of MEASURE (R95, R96): READY with a push, a retry from Triggering, or INVALID. -/
def State.measureDecode (s : State) : State :=
  if s.frameBusy then
    if s.retries < s.params.busyRetries then
      { s with decValid := false, retries := s.retries + 1, seqState := .triggering }.goto .trigStart
    else { s with decValid := false, seqState := .invalid }.goto (.ending .sensorBusy)
  else s.measureReady.goto (.ending .ok)

/-- After the last frame byte (R95): `Stop(); SEQ_STATE <- DECODING`, and the Decoding state, which waits
for nothing and so ends inside the same step (R54). -/
def State.measureRead (s : State) : State :=
  { s.stop with seqState := .decoding }.measureDecode

/-- Frame byte `i` (R95: ReadSeq(FRAME_LEN), which fills BUF[0..6]). -/
def State.measureReadByte (i : Fin 7) (s : State) : Option State :=
  s.readByte (i.castLE (by decide)) (!isLast Config.frameLen i.val)
    (fun t => if isLast Config.frameLen i.val then t.measureRead else t.goto (.readData (i + 1)))
    State.measureErr

/-- MEASURE (R95). -/
def execMeasure (s : State) : StepOutcome :=
  match s.pos with
  | .first =>
    if s.configured && !s.txnOpen then s.stepOr { s with retries := 0 }.measureTrigger
    else .next (s.finish .usage)
  | .trigStart => s.stepOr s.measureTrigger
  | .trigAddress =>
    s.stepOr (s.openAddress Config.sensorAddr .write (State.goto (.trigData 0)) State.measureErr)
  | .trigData i => s.stepOr (s.measureTrigByte i)
  | .settling => .next ({ s.settle with seqState := .reading }.goto .readStart)
  | .readStart => s.stepOr (s.openStart (State.goto .readAddress) State.measureErr)
  | .readAddress =>
    s.stepOr (s.openAddress Config.sensorAddr .read (State.goto (.readData 0)) State.measureErr)
  | .readData i => s.stepOr (s.measureReadByte i)
  | .ending r => .next (s.finish r)
  | _ => .fault .lostPosition

end Sys2Proof.Machine
end

