-- ==== Sys2Proof/Machine/Transaction.lean ====
section
/-! DEFINITION. The Transaction Engine commands OPEN, WRSEQ, RDSEQ and CLOSE (spec/41_transaction.md). Each
meaning is one step of the SEQUENCER at the position the state holds (R54). -/

namespace Sys2Proof.Machine

/-- OPEN (R82). -/
def execOpenTxn (a7 : DeviceAddr) (d : Direction) (s : State) : StepOutcome :=
  match s.pos with
  | .first =>
    if s.configured && !s.txnOpen then s.stepOr (s.openStart (State.goto .address) State.raised)
    else .next (s.finish .usage)
  | .address => s.stepOr (s.openAddress a7 d (State.goto (.ending .ok)) State.raised)
  | .ending r => .next (s.finish r)
  | _ => .fault .lostPosition

/-- Where the loop over n bytes goes after byte `i`: to byte i+1, or to the end with OK. -/
def afterByte (n : BitVec 4) (i : Fin 8) : SeqPos :=
  if isLast n.toNat i.val then .ending .ok else .data (i + 1)

/-- Byte `i` of `WriteSeq(BUF[0 .. n-1])` (R80, R83). -/
def State.wrseqByte (n : BitVec 4) (i : Fin 8) (s : State) : Option State :=
  s.writeByte s.buf[i] (State.goto (afterByte n i)) State.raised

/-- Byte `i` of `ReadSeq(n)` (R81, R84): every byte but the last with ACK. -/
def State.rdseqByte (n : BitVec 4) (i : Fin 8) (s : State) : Option State :=
  s.readByte i (!isLast n.toNat i.val) (State.goto (afterByte n i)) State.raised

/-- WRSEQ (R83). -/
def execWrseq (n : BitVec 4) (s : State) : StepOutcome :=
  if countOk n then
    match s.pos with
    | .first =>
      if s.configured && s.txnOpen && s.txnDir == .write then s.stepOr (s.wrseqByte n 0)
      else .next (s.finish .usage)
    | .data i => s.stepOr (s.wrseqByte n i)
    | .ending r => .next (s.finish r)
    | _ => .fault .lostPosition
  else .fault .illFormedCount

/-- RDSEQ (R84). -/
def execRdseq (n : BitVec 4) (s : State) : StepOutcome :=
  if countOk n then
    match s.pos with
    | .first =>
      if s.configured && s.txnOpen && s.txnDir == .read then s.stepOr (s.rdseqByte n 0)
      else .next (s.finish .usage)
    | .data i => s.stepOr (s.rdseqByte n i)
    | .ending r => .next (s.finish r)
    | _ => .fault .lostPosition
  else .fault .illFormedCount

/-- CLOSE (R85). -/
def execClose (s : State) : StepOutcome :=
  match s.pos with
  | .first =>
    if s.configured then .next (s.stop.finish .ok)
    else .next (s.finish .usage)
  | _ => .fault .lostPosition

end Sys2Proof.Machine
end

