-- ==== Sys2Proof/Machine/Dispatch.lean ====
section
/-! DEFINITION. The meaning of each command: one step of the SEQUENCER for it (R54, R65). -/

namespace Sys2Proof.Machine

/-- One step of the SEQUENCER for the command `i` at the position `s` holds. -/
def exec (i : Instr) (s : State) : Host.Outcome State Fault Refusal :=
  match i with
  | .cfg b => Sys2Proof.Machine.execCfg b s
  | .start => Sys2Proof.Machine.execStart s
  | .stop => Sys2Proof.Machine.execStop s
  | .wrb b => Sys2Proof.Machine.execWrb b s
  | .rdb ack => Sys2Proof.Machine.execRdb ack s
  | .openTxn a7 d => Sys2Proof.Machine.execOpenTxn a7 d s
  | .wrseq n => Sys2Proof.Machine.execWrseq n s
  | .rdseq n => Sys2Proof.Machine.execRdseq n s
  | .close => Sys2Proof.Machine.execClose s
  | .decode => Sys2Proof.Machine.execDecode s
  | .fpush => Sys2Proof.Machine.execFpush s
  | .measure => Sys2Proof.Machine.execMeasure s

end Sys2Proof.Machine
end

