-- ==== Sys2Proof/Machine/Registers.lean ====
section
/-! DEFINITION. The HOST's accesses to the 64-byte register window (spec/10_state.md R17, spec/20_memory.md R42
to R47). -/

namespace Sys2Proof.Machine

/-- The registers of the window (R17). -/
inductive Reg where
  | cmd
  | status
  | config
  | buf0
  | buf1
  | rawH
  | rawT
  | avgHSum
  | avgTSum
  | avgCount
  /-- An offset of 0x28 to 0x3C: reads 0, writes ignored. -/
  | reserved
  deriving DecidableEq, Repr

/-- The register at an offset of the window (R17). -/
def regAt (off : Nat) : Reg :=
  match off with
  | 0x00 => .cmd
  | 0x04 => .status
  | 0x08 => .config
  | 0x0C => .buf0
  | 0x10 => .buf1
  | 0x14 => .rawH
  | 0x18 => .rawT
  | 0x1C => .avgHSum
  | 0x20 => .avgTSum
  | 0x24 => .avgCount
  | _ => .reserved

/-- The offset of a named register (R17); the first one for the reserved offsets. -/
def Reg.offset : Reg → Nat
  | .cmd => 0x00
  | .status => 0x04
  | .config => 0x08
  | .buf0 => 0x0C
  | .buf1 => 0x10
  | .rawH => 0x14
  | .rawT => 0x18
  | .avgHSum => 0x1C
  | .avgTSum => 0x20
  | .avgCount => 0x24
  | .reserved => 0x28

/-- The registers whose read returns a draw while BUSY = 1 (R43). -/
def Reg.drawnWhileBusy : Reg → Bool
  | .cmd => false
  | .status => false
  | .config => false
  | .buf0 => true
  | .buf1 => true
  | .rawH => true
  | .rawT => true
  | .avgHSum => true
  | .avgTSum => true
  | .avgCount => true
  | .reserved => false

/-- The current value of a register: the BUSY = 0 column of R43. -/
def State.regValue (r : Reg) (s : State) : Word :=
  match r with
  | .cmd => 0
  | .status => s.statusWord
  | .config => s.busDiv.zeroExtend 32
  | .buf0 => s.buf0
  | .buf1 => s.buf1
  | .rawH => s.rawH.zeroExtend 32
  | .rawT => s.rawT.zeroExtend 32
  | .avgHSum => s.avgHSum.zeroExtend 32
  | .avgTSum => s.avgTSum.zeroExtend 32
  | .avgCount => s.count.zeroExtend 32
  | .reserved => 0

/-- A HOST read of a register (R43): its value goes to the HOST. No state of the block changes. -/
def State.hostRead (r : Reg) (s : State) : State :=
  if s.busy && r.drawnWhileBusy then
    { s with hostReads := s.hostReads ++ [Config.busyRead s.draws], draws := s.draws + 1 }
  else { s with hostReads := s.hostReads ++ [s.regValue r] }

/-- A HOST write to CMD, BUF0 or BUF1 while BUSY = 1 is dropped (R46). -/
def State.droppedWrite (s : State) : State := { s with overrun := true }

/-- A HOST write of v to BUF0 while BUSY = 0 (R45). -/
def State.writeBuf0 (v : Word) (s : State) : State :=
  { s with buf :=
      (((s.buf.set 0 (byteOf v 0)).set 1 (byteOf v 1)).set 2 (byteOf v 2)).set 3 (byteOf v 3) }

/-- A HOST write of v to BUF1 while BUSY = 0 (R45). -/
def State.writeBuf1 (v : Word) (s : State) : State :=
  { s with buf :=
      (((s.buf.set 4 (byteOf v 0)).set 5 (byteOf v 1)).set 6 (byteOf v 2)).set 7 (byteOf v 3) }

/-- A HOST write of a register (R44 to R47). -/
def State.hostWrite (r : Reg) (v : Word) (s : State) : State :=
  match r with
  | .cmd => if s.busy then s.droppedWrite else s.startCommand v
  | .buf0 => if s.busy then s.droppedWrite else s.writeBuf0 v
  | .buf1 => if s.busy then s.droppedWrite else s.writeBuf1 v
  | .status => s
  | .config => s
  | .rawH => s
  | .rawT => s
  | .avgHSum => s
  | .avgTSum => s
  | .avgCount => s
  | .reserved => s

/-- The register an access addresses, or why it is no access of the block (R42). -/
def accessReg (p : Params) (addr width : Nat) : Except Refusal Reg :=
  if width ≠ 4 then .error .accessWidth
  else if addr < p.pBase ∨ p.pBase + 64 < addr + width then .error .accessOutsideWindow
  else if (addr - p.pBase) % 4 ≠ 0 then .error .accessMisaligned
  else .ok (regAt (addr - p.pBase))

/-- One HOST access (R42, R49): whole and at one instant. -/
def hostStep (a : HostAccess) (s : State) : StepOutcome :=
  match a with
  | .read addr width =>
    match accessReg s.params addr width with
    | .ok r => .next (s.hostRead r)
    | .error e => .refused e
  | .write addr width v =>
    match accessReg s.params addr width with
    | .ok r => .next (s.hostWrite r v)
    | .error e => .refused e

end Sys2Proof.Machine
end

