-- ==== Sys2Proof/Machine/Sequencer.lean ====
section
/-! DEFINITION. The SEQUENCER's step (R65), the turns of the agents (R54), and how a command word is placed as
the command in progress. -/

namespace Sys2Proof.Machine

/-- One step of the SEQUENCER. With BUSY = 0 no command is in progress and it does nothing (R124). With
BUSY = 1 it runs the command in CMDLATCH, and an illegal word ends with ILLEGAL (R65, R66). -/
def sequencerStep (s : State) : StepOutcome :=
  if s.busy then
    match decodeWord s.cmdLatch with
    | .ok i => exec i s
    | .error _ => .next (s.finish .illegal)
  else .next s

/-- One pass of the loop of WAIT (R69): `rd STATUS -> s ; if s[0] = 1 goto L`. The HOST gets s; s[0] is BUSY. Before
the next pass the SEQUENCER has a turn, notes/assumptions/8. `rest` is what follows the WAIT. -/
def State.waitPass (rest : List Turn) (s : State) : State :=
  { s with agenda := if s.busy then .sequencer :: .wait :: rest else rest }.hostRead .status

/-- One step of the model (R54): the next turn of the agenda; with no turn left, the SEQUENCER moves. -/
def turnStep (s : State) : StepOutcome :=
  match s.agenda with
  | [] => sequencerStep s
  | .sequencer :: rest => sequencerStep { s with agenda := rest }
  | .wait :: rest => .next (s.waitPass rest)
  | .reset :: rest => .next { s with agenda := rest }.resetInput
  | .host a :: rest => hostStep a { s with agenda := rest }

/-- The command word `w` as the command in progress at its first step, as the HOST's write to CMD leaves it
(R44), with the SEQUENCER's turn next. -/
def State.placeCommand (w : Word) (s : State) : State :=
  { s.startCommand w with agenda := .sequencer :: s.agenda }

end Sys2Proof.Machine
end

