-- ==== Sys2Proof/Machine/Step.lean ====
section
/-! DEFINITION. The step of the machine, and how a command is placed where the next step runs it. -/

namespace Sys2Proof.Machine

/-- One step of the model (R54). -/
def step (s : State) : Host.Outcome State Fault Refusal := turnStep s

/-- `s` with the word `w` (its bits above `nbits` zero) as the command in progress, so that the next step
runs exactly it, notes/assumptions/9. -/
def State.withFetchWord (s : State) (nbits w : Nat) : State := s.placeCommand (tableWord nbits w)

end Sys2Proof.Machine
end

