-- ==== Sys2Proof/Machine/HostProgram.lean ====
section
/-! DEFINITION. The HOST's side of the interface as spec/30_encoding.md gives it: the assembler syntax of R67
(as terms; its ranges and words), the statements of R68 and the pseudo-instructions of R69, each as the
turns it makes the HOST take. -/

namespace Sys2Proof.Machine

/-- A command as the assembler spells it, its numbers not yet checked (R67). -/
inductive Asm where
  | cfg (b : Nat)
  | start
  | stop
  | wrb (b : Nat)
  | rdbAck
  | rdbNack
  | openW (a : Nat)
  | openR (a : Nat)
  | wrseq (n : Nat)
  | rdseq (n : Nat)
  | close
  | decode
  | fpush
  | measure
  deriving DecidableEq, Repr

/-- `word` where the operand is in its range; an assembler rejects the others (R67). -/
def inRange (ok : Bool) (word : Nat) : Option Word :=
  if ok then some (BitVec.ofNat 32 word) else none

/-- The `word` column of R67. -/
def Asm.word : Asm → Option Word
  | .cfg b => inRange (b ≤ 255) (b <<< 8 ||| 0x1)
  | .start => some 0x00000002
  | .stop => some 0x00000003
  | .wrb b => inRange (b ≤ 255) (b <<< 8 ||| 0x4)
  | .rdbAck => some 0x00000015
  | .rdbNack => some 0x00000005
  | .openW a => inRange (a ≤ 127) (a <<< 16 ||| 0x6)
  | .openR a => inRange (a ≤ 127) (a <<< 16 ||| 0x16)
  | .wrseq n => inRange (1 ≤ n && n ≤ 8) ((n - 1) <<< 5 ||| 0x7)
  | .rdseq n => inRange (1 ≤ n && n ≤ 8) ((n - 1) <<< 5 ||| 0x8)
  | .close => some 0x00000009
  | .decode => some 0x0000000A
  | .fpush => some 0x0000000B
  | .measure => some 0x0000000C

/-- A HOST statement of R68 or a pseudo-instruction of R69. -/
inductive HostStmt where
  /-- `wr REG, v` -/
  | wr (r : Reg) (v : Word)
  /-- `rd REG -> x`; x is the value in `State.hostReads`. -/
  | rd (r : Reg)
  /-- `cmd M` -/
  | cmd (m : Asm)
  /-- `WAIT`: the values its reads gave stand in `State.hostReads`, the last one with BUSY = 0. -/
  | wait
  /-- `X M` -/
  | x (m : Asm)
  /-- `SETBUF b0, ..., bk` (k ≤ 7) -/
  | setbuf (bytes : List Byte)
  /-- `PROBE a`: the RESULT of the OPEN, read before the CLOSE, is in the last value of its first WAIT. -/
  | probe (a : Nat)
  /-- `ACQUIRE` -/
  | acquire
  deriving DecidableEq, Repr

/-- `wr REG, v` (R68). -/
def wrTurn (p : Params) (r : Reg) (v : Word) : Turn := .host (.write (p.pBase + r.offset) 4 v)

/-- `rd REG -> x` (R68). -/
def rdTurn (p : Params) (r : Reg) : Turn := .host (.read (p.pBase + r.offset) 4)

/-- `cmd M` (R68): none where the assembler rejects M. -/
def cmdTurns (p : Params) (m : Asm) : Option (List Turn) :=
  m.word.map (fun w => [wrTurn p .cmd w])

/-- `X M` (R69): `cmd M ; WAIT`. -/
def xTurns (p : Params) (m : Asm) : Option (List Turn) :=
  (cmdTurns p m).map (fun ts => ts ++ [.wait])

/-- `SETBUF b0, ..., bk` (R69), with missing bytes 0x00. -/
def setbufTurns (p : Params) (b : List Byte) : Option (List Turn) :=
  if 1 ≤ b.length ∧ b.length ≤ 8 then
    some [wrTurn p .buf0 (packWord (b.getD 0 0) (b.getD 1 0) (b.getD 2 0) (b.getD 3 0)),
      wrTurn p .buf1 (packWord (b.getD 4 0) (b.getD 5 0) (b.getD 6 0) (b.getD 7 0))]
  else none

/-- The turns of one HOST statement. -/
def HostStmt.turns (p : Params) : HostStmt → Option (List Turn)
  | .wr r v => some [wrTurn p r v]
  | .rd r => some [rdTurn p r]
  | .cmd m => cmdTurns p m
  | .wait => some [.wait]
  | .x m => xTurns p m
  | .setbuf b => setbufTurns p b
  | .probe a => do
    let o ← xTurns p (.openW a)
    let c ← xTurns p .close
    return o ++ c
  | .acquire => xTurns p .measure

/-- The turns of a HOST program, in program order (R55). -/
def programTurns (p : Params) : List HostStmt → Option (List Turn)
  | [] => some []
  | st :: rest => do
    let ts ← st.turns p
    let more ← programTurns p rest
    return ts ++ more

end Sys2Proof.Machine
end

