-- ==== Sys2Proof/Machine/Physical.lean ====
section
/-! DEFINITION. The physical values the HOST or a model computes from the block's raw fields (spec/42_sensor.md
R92, R99, spec/43_filter.md R103): exact rationals, outside the block (D21, D22). -/

namespace Sys2Proof.Machine

/-- humidity(rh) in %RH (R92). -/
def humidity (rh : Field) : Rat := (rh.toNat : Rat) * 100 / 2 ^ 20

/-- temperature(rt) in °C (R92). -/
def temperature (rt : Field) : Rat := (rt.toNat : Rat) * 200 / 2 ^ 20 - 50

/-- `average()` of the window (R103): unavailable (`none`) when AVG_COUNT = 0. -/
def State.average (s : State) : Option (Rat × Rat) :=
  if s.count = 0 then none
  else some
    ((s.avgHSum.toNat : Rat) * 100 / ((s.count.toNat : Rat) * 2 ^ 20),
     (s.avgTSum.toNat : Rat) * 200 / ((s.count.toNat : Rat) * 2 ^ 20) - 50)

/-- floor(H * 2^20 / 100), the raw humidity field of R99 for H in [0, 100). -/
def packHumidity (h : Rat) : Field := BitVec.ofNat 20 (h * 2 ^ 20 / 100).floor.toNat

/-- floor((T + 50) * 2^20 / 200), the raw temperature field of R99 for T in [-50, 150). -/
def packTemperature (t : Rat) : Field := BitVec.ofNat 20 ((t + 50) * 2 ^ 20 / 200).floor.toNat

end Sys2Proof.Machine
end

