-- ==== Sys2Proof/Safety.lean ====
section
/-! DEFINITION. What the statements about the machine are said with: the preconditions and results of the
commands (spec/60_exceptions.md), the invariant of the block, the engine-only discipline of R88, the steps
a command has left (R131), and runs of one command. -/

namespace Sys2Proof.Machine

/-- The preconditions of R110: a command whose precondition is false ends with USAGE. -/
def precondition (i : Instr) (s : State) : Bool :=
  match i with
  | .cfg _ => !s.busActive
  | .start => s.configured
  | .stop => s.configured
  | .wrb _ => s.configured && s.busActive
  | .rdb _ => s.configured && s.busActive
  | .openTxn _ _ => s.configured && !s.txnOpen
  | .wrseq _ => s.configured && s.txnOpen && s.txnDir == .write
  | .rdseq _ => s.configured && s.txnOpen && s.txnDir == .read
  | .close => s.configured
  | .decode => true
  | .fpush => s.decValid
  | .measure => s.configured && !s.txnOpen

/-- Whether a command waits for the bus: the commands that can raise BUS_TIMEOUT (R108). -/
def waitsOnBus (i : Instr) : Bool :=
  match i with
  | .cfg _ => false
  | .start => true
  | .stop => false
  | .wrb _ => true
  | .rdb _ => true
  | .openTxn _ _ => true
  | .wrseq _ => true
  | .rdseq _ => true
  | .close => false
  | .decode => false
  | .fpush => false
  | .measure => true

/-- Whether a command is of the Transaction Engine or MEASURE and judges statuses: the commands that can
raise PROTOCOL_FAULT (R108). -/
def judgesStatus (i : Instr) : Bool :=
  match i with
  | .openTxn _ _ => true
  | .wrseq _ => true
  | .rdseq _ => true
  | .measure => true
  | .cfg _ => false
  | .start => false
  | .stop => false
  | .wrb _ => false
  | .rdb _ => false
  | .close => false
  | .decode => false
  | .fpush => false

/-- Whether a command runs OpenSeq: the commands that can raise ADDR_NACK (R108). -/
def opensTransaction (i : Instr) : Bool :=
  match i with
  | .openTxn _ _ => true
  | .measure => true
  | _ => false

/-- The "raised by" column of R108, for the commands of the opcode map. -/
def mayEnd (i : Instr) (r : Result) : Bool :=
  match r with
  | .none => false
  | .ok => true
  | .addrNack => opensTransaction i
  | .protocolFault => judgesStatus i
  | .busTimeout => waitsOnBus i
  | .sensorBusy => i == .decode || i == .measure
  | .usage => i != .decode
  | .illegal => false

/-- The positions a command's pseudocode has (R38). The preconditions are checked in the first step, so
no later step ends with USAGE. -/
def posBelongs (i : Instr) (p : SeqPos) : Bool :=
  match p with
  | .first => true
  | .address => opensTransaction i && i != .measure
  | .data k =>
    match i with
    | .wrseq n => decide (k.val < n.toNat)
    | .rdseq n => decide (k.val < n.toNat)
    | _ => false
  | .trigStart => i == .measure
  | .trigAddress => i == .measure
  | .trigData _ => i == .measure
  | .settling => i == .measure
  | .readStart => i == .measure
  | .readAddress => i == .measure
  | .readData _ => i == .measure
  | .ending r => waitsOnBus i && mayEnd i r && r != .usage

/-- BUS_ACTIVE and TXN_OPEN at a position inside a command. -/
def busFits (p : SeqPos) (active isOpen : Bool) : Bool :=
  match p with
  | .first => true
  | .address => active && !isOpen
  | .data _ => active && isOpen
  | .trigStart => !active && !isOpen
  | .trigAddress => active && !isOpen
  | .trigData _ => active && isOpen
  | .settling => !active && !isOpen
  | .readStart => !active && !isOpen
  | .readAddress => active && !isOpen
  | .readData _ => active && isOpen
  | .ending _ => true

/-- The states SEQ_STATE holds outside a cycle (R28). -/
def SeqState.betweenCycles (x : SeqState) : Bool :=
  match x with
  | .idle => true
  | .ready => true
  | .invalid => true
  | _ => false

/-- SEQ_STATE at a position: MEASURE shows its state, and outside it IDLE, READY or INVALID is held (R28). -/
def seqStateFits (p : SeqPos) (x : SeqState) : Bool :=
  match p with
  | .trigStart => x == .triggering
  | .trigAddress => x == .triggering
  | .trigData _ => x == .triggering
  | .settling => x == .settling
  | .readStart => x == .reading
  | .readAddress => x == .reading
  | .readData _ => x == .reading
  | .first => x.betweenCycles
  | .address => x.betweenCycles
  | .data _ => x.betweenCycles
  | .ending _ => x.betweenCycles

/-- Whether a position is inside a bus command, past its first step and before its end. -/
def midCommand (p : SeqPos) : Bool :=
  match p with
  | .first => false
  | .ending _ => false
  | _ => true

/-- While BUSY = 1 the position is one of the command in CMDLATCH; an illegal word has only its first
step (R65, R66). -/
def State.latchFits (s : State) : Bool :=
  match decodeWord s.cmdLatch with
  | .ok i => posBelongs i s.pos
  | .error _ => s.pos == .first

/-- BUS_ACTIVE as a history tells it: "emitted S or Sr and no P since" (R22). -/
def activeAfter (h : List BusEvent) : Bool := h.foldl (fun a e => e.busActiveAfter a) false

/-- The invariant of the block: what every rule keeps, whatever the HOST and the BUS do. -/
structure State.Inv (s : State) : Prop where
  /-- While BUSY = 1, RESULT reads NONE (R127). -/
  resultWhileBusy : s.busy = true → s.result = .none
  /-- With BUSY = 0 no command is in progress (R38). -/
  idlePos : s.busy = false → s.pos = .first
  /-- The position is one of the command in CMDLATCH (R37, R38). -/
  latch : s.busy = true → s.latchFits = true
  /-- BUS_ACTIVE is 1 when S or Sr was emitted and no P since (R22). -/
  active : s.busActive = activeAfter s.history
  /-- A bus command passed its check of CONFIGURED (R70). -/
  configured : s.busActive = true ∨ midCommand s.pos = true → s.configured = true
  /-- An open transaction has an active bus (R23). -/
  openActive : s.txnOpen = true → s.busActive = true
  /-- BUS_ACTIVE and TXN_OPEN inside a command. -/
  bus : busFits s.pos s.busActive s.txnOpen = true
  /-- SEQ_STATE is MEASURE's state (R28). -/
  seqState : seqStateFits s.pos s.seqState = true
  /-- RETRIES never exceeds P_BUSY_RETRIES (R30). -/
  retries : s.retries ≤ s.params.busyRetries
  /-- Before the window is full, the next slot is the first unpopulated one (R104). -/
  window : s.count.toNat < 3 → s.wrIdx.val = s.count.toNat
  /-- A command that ended with USAGE or ILLEGAL has set ERR (R25). -/
  errSet : s.result.setsErr = true → s.err = true

/-- The commands of R88: the engine's, CFG, DECODE, FPUSH and MEASURE. -/
def engineCommand (i : Instr) : Bool :=
  match i with
  | .cfg _ => true
  | .openTxn _ _ => true
  | .wrseq _ => true
  | .rdseq _ => true
  | .close => true
  | .decode => true
  | .fpush => true
  | .measure => true
  | .start => false
  | .stop => false
  | .wrb _ => false
  | .rdb _ => false

/-- A word of one of these commands, or an illegal word, which drives no bus event (R66). -/
def engineWord (w : Word) : Bool :=
  match decodeWord w with
  | .ok i => engineCommand i
  | .error _ => true

/-- A turn in which the HOST issues no other command than those of R88. -/
def engineTurn (p : Params) (t : Turn) : Bool :=
  match t with
  | .host (.write addr width v) =>
    match accessReg p addr width with
    | .ok .cmd => engineWord v
    | _ => true
  | _ => true

/-- The discipline and the guarantee of R88, as an invariant. -/
structure State.EngineInv (s : State) : Prop where
  /-- P_ABORT_STOP = 1. -/
  abortStop : s.params.abortStop = true
  /-- The HOST uses only the commands of R88. -/
  turns : s.agenda.all (engineTurn s.params) = true
  /-- So is the command in progress. -/
  latch : s.busy = true → engineWord s.cmdLatch = true
  /-- Outside OpenSeq the bus is active only while a transaction is open. -/
  closed : s.busActive = true → s.txnOpen = true ∨ s.pos = .address ∨ s.pos = .trigAddress
    ∨ s.pos = .readAddress
  /-- "no Sr is ever emitted" -/
  noRepStart : BusEvent.repStart ∉ s.history

/-- The steps a cycle of MEASURE has left at a position, its end among them (R54, R95). -/
def measureStepsLeft (p : SeqPos) : Nat :=
  match p with
  | .trigStart => 16
  | .trigAddress => 15
  | .trigData i => 14 - i.val
  | .settling => 11
  | .readStart => 10
  | .readAddress => 9
  | .readData i => 8 - i.val
  | .ending _ => 1
  | .first => 16
  | .address => 16
  | .data _ => 16

/-- A bound on the steps the command `i` has left at its position (R131). -/
def commandStepsLeft (i : Instr) (s : State) : Nat :=
  match i with
  | .measure =>
    match s.pos with
    | .first => 16 + 15 * s.params.busyRetries.toNat
    | .ending _ => 1
    | p => measureStepsLeft p + 15 * (s.params.busyRetries.toNat - s.retries.toNat)
  | .wrseq n =>
    match s.pos with
    | .first => n.toNat + 1
    | .data k => n.toNat - k.val + 1
    | _ => 1
  | .rdseq n =>
    match s.pos with
    | .first => n.toNat + 1
    | .data k => n.toNat - k.val + 1
    | _ => 1
  | .openTxn _ _ =>
    match s.pos with
    | .first => 3
    | .address => 2
    | _ => 1
  | _ =>
    match s.pos with
    | .first => 2
    | _ => 1

/-- A bound on the steps the command in CMDLATCH has left; an illegal word has one. -/
def State.stepsLeft (s : State) : Nat :=
  match decodeWord s.cmdLatch with
  | .ok i => commandStepsLeft i s
  | .error _ => 1

/-- `k` steps of the SEQUENCER for one command: `exec` from step to step. -/
def execSteps : Nat → Instr → State → StepOutcome
  | 0, _, s => .next s
  | k + 1, i, s =>
    match exec i s with
    | .next t => execSteps k i t
    | .fault f => .fault f
    | .refused r => .refused r

/-- The state after a command was stopped by a precondition: "changes only RESULT, ERR and BUSY" (R70,
R110). -/
def State.usageEnd (s : State) : State :=
  { s with result := .usage, err := true, busy := false, pos := .first }

/-- The samples pushed in order onto a window (R104). -/
def State.pushAll (s : State) (samples : List (Field × Field)) : State :=
  samples.foldl (fun t x => t.push x.1 x.2) s

/-- Two states that differ at most in window slots no rule has written (R35): the slots i ≥ COUNT. -/
def sameButUnwritten (s t : State) : Prop :=
  t = { s with winH := t.winH, winT := t.winT } ∧
    ∀ i : Fin 3, i.val < s.count.toNat → t.winH[i] = s.winH[i] ∧ t.winT[i] = s.winT[i]

/-- The values of the table of R39 but CMDLATCH and the window slots, which it leaves unspecified. -/
def State.AtReset (s : State) : Prop :=
  s.busy = false ∧ s.configured = false ∧ s.busActive = false ∧ s.txnOpen = false ∧
  s.txnDir = .write ∧ s.decValid = false ∧ s.err = false ∧ s.overrun = false ∧
  s.result = .none ∧ s.seqState = .idle ∧ s.lastBusStatus = s.params.st.noStatus ∧
  s.retries = 0 ∧ s.busDiv = 0x00 ∧ (∀ k : Fin 8, s.buf[k] = 0x00) ∧ s.rawH = 0 ∧ s.rawT = 0 ∧
  s.wrIdx = 0 ∧ s.count = 0 ∧ s.avgHSum = 0 ∧ s.avgTSum = 0 ∧ s.pos = .first ∧ s.history = []

/-- What makes a word illegal, by the bits R66 names. -/
def illegalWord (w : Word) : Prop :=
  fieldOp w = 0x0 ∨ 0xD ≤ fieldOp w ∨ fieldReserved w ≠ 0 ∨
  (fieldD w ≠ 0 ∧ fieldOp w ≠ 0x5 ∧ fieldOp w ≠ 0x6) ∨
  (fieldN w ≠ 0 ∧ fieldOp w ≠ 0x7 ∧ fieldOp w ≠ 0x8) ∨
  (fieldB w ≠ 0 ∧ fieldOp w ≠ 0x1 ∧ fieldOp w ≠ 0x4) ∨
  (fieldA w ≠ 0 ∧ fieldOp w ≠ 0x6)

/-- An access of R42: 4 bytes at a multiple of 4 inside the window. -/
def legalAccess (p : Params) (addr width : Nat) : Prop :=
  width = 4 ∧ p.pBase ≤ addr ∧ addr + 4 ≤ p.pBase + 64 ∧ (addr - p.pBase) % 4 = 0

/-- When the next turn is the SEQUENCER's: the state in which it steps (R54). -/
def State.sequencerTurn (s : State) : Option State :=
  match s.agenda with
  | [] => some s
  | .sequencer :: rest => some { s with agenda := rest }
  | .wait :: _ => none
  | .reset :: _ => none
  | .host _ :: _ => none

/-- The commands that `RequireConfigured()` guards (R70). -/
def needsConfigured (i : Instr) : Bool :=
  match i with
  | .start => true
  | .stop => true
  | .wrb _ => true
  | .rdb _ => true
  | .openTxn _ _ => true
  | .wrseq _ => true
  | .rdseq _ => true
  | .close => true
  | .measure => true
  | .cfg _ => false
  | .decode => false
  | .fpush => false

/-- The positions whose step is a bus wait of the command `i`, its checks passed (R38, R54). -/
def waitsHere (i : Instr) (s : State) : Prop :=
  waitsOnBus i = true ∧ posBelongs i s.pos = true ∧ s.pos ≠ .settling ∧
  (∀ r, s.pos ≠ .ending r) ∧ (s.pos = .first → precondition i s = true)

/-- The event a step of MEASURE emits at one of its bus waits (R95). -/
def measureEvent (s : State) : BusEvent :=
  match s.pos with
  | .trigAddress => .tx 0x70
  | .trigData 0 => .tx 0xAC
  | .trigData 1 => .tx 0x33
  | .trigData 2 => .tx 0x00
  | .readAddress => .tx 0x71
  | .readData k => .rx (decide (k.val < 6))
  | _ => if s.busActive then .repStart else .start

/-- The event of the bus wait of the command `i` at its position (R74 to R84, R95): S or Sr of START and of
OpenSeq, the byte sent, or the byte received with its acknowledge. A command without a wait has none; its row
is not read. -/
def waitEvent (i : Instr) (s : State) : BusEvent :=
  let startOrRep : BusEvent := if s.busActive then .repStart else .start
  match i with
  | .start => startOrRep
  | .wrb b => .tx b
  | .rdb ack => .rx ack
  | .openTxn a7 d =>
    match s.pos with
    | .address => .tx (a7 ++ d.bit)
    | _ => startOrRep
  | .wrseq _ =>
    match s.pos with
    | .data k => .tx s.buf[k]
    | _ => .tx s.buf[0]
  | .rdseq n =>
    match s.pos with
    | .data k => .rx (decide (k.val + 1 < n.toNat))
    | _ => .rx (decide (1 < n.toNat))
  | .measure => measureEvent s
  | .cfg _ => .stop
  | .stop => .stop
  | .close => .stop
  | .decode => .stop
  | .fpush => .stop

/-- The bytes of BUF after the bytes `ds` were stored from BUF[0] on (R81). -/
def overwritten (buf : Vector Byte 8) (ds : List Byte) : Vector Byte 8 :=
  Vector.ofFn (fun k : Fin 8 => ds.getD k.val buf[k])

/-- The answers of a sensor that goes along with one cycle of MEASURE for the frame `f` (the vectors
V-MEA of spec/95_test_vectors.md); `first` is the status of the first S or Sr. -/
def cycleAnswers (m : StatusMap) (first : Byte) (f : Vector Byte 7) (x : Byte) : List BusAnswer :=
  [.done first x, .done m.slawAck x, .done m.txdAck x, .done m.txdAck x, .done m.txdAck x,
    .done m.start x, .done m.slarAck x,
    .done m.rxdAck f[0], .done m.rxdAck f[1], .done m.rxdAck f[2], .done m.rxdAck f[3],
    .done m.rxdAck f[4], .done m.rxdAck f[5], .done m.rxdNack f[6]]

/-- The 17 events of one cycle (R95, V-MEA-1), `first` its S or Sr. -/
def cycleEvents (first : BusEvent) : List BusEvent :=
  [first, .tx 0x70, .tx 0xAC, .tx 0x33, .tx 0x00, .stop, .settle, .start, .tx 0x71,
    .rx true, .rx true, .rx true, .rx true, .rx true, .rx true, .rx false, .stop]

end Sys2Proof.Machine
end

