-- ==== Sys2Proof/Certificates/Slice0/Obligations.lean ====
section
/-! DEFINITION. The statements about EP-SENSOR-CORE for the provers. Each docstring names the rules of spec/ it
rests on. A statement holds for every value of the parameters (R8), of the bus's answers (R52) and of the
model's free values, since it quantifies over every state. -/

open Sys2Proof Sys2Proof.Machine

/-! ### Reset and the register window -/

/-- R39: the reset values the spec gives, for every choice of the parameters of R8. (The values the model
names for CMDLATCH and the window slots, notes/assumptions/1, are not stated.) -/
def Obligations.ResetLeavesTheTableValues : Prop :=
  (∀ p : Params, (State.resetWith p).AtReset) ∧ State.reset.AtReset ∧
    State.reset.statusWord = 0x00F80000

/-- R123: the reset input acts at once in every state, abandons the command in progress without a
`finish` (RESULT is NONE), restarts H empty, and leaves the parameters. -/
def Obligations.ResetInputActsAtOnce : Prop :=
  ∀ (s : State) (rest : List Turn), s.agenda = .reset :: rest →
    ∃ t, step s = .next t ∧ t.AtReset ∧ t.params = s.params ∧ t.agenda = rest

/-- R42: an access of 4 bytes at a multiple of 4 in the window has a step; every other access is refused. -/
def Obligations.OnlyAlignedWordAccessesExist : Prop :=
  ∀ (s : State) (rest : List Turn) (addr width : Nat) (v : Word),
    (s.agenda = .host (.read addr width) :: rest ∨
      s.agenda = .host (.write addr width v) :: rest) →
    (legalAccess s.params addr width → ∃ t, step s = .next t) ∧
    (¬ legalAccess s.params addr width → ∃ r, step s = .refused r)

/-- R43: what a HOST read returns, per register and per value of BUSY, and that it changes no state of the
block. While BUSY = 1 nothing is said of the value `v` of BUF, RAW and AVG reads: it is a draw. -/
def Obligations.HostReadReturnsTheRegister : Prop :=
  ∀ (s : State) (rest : List Turn) (off : Nat), off < 64 → off % 4 = 0 →
    s.agenda = .host (.read (s.params.pBase + off) 4) :: rest →
    ∃ v d, step s = .next
        { s with agenda := rest, hostReads := s.hostReads ++ [v], draws := d } ∧
      (off = 0x00 → v = 0) ∧
      (off = 0x04 → v = s.statusWord) ∧
      (off = 0x08 → v = s.busDiv.setWidth 32) ∧
      (0x28 ≤ off → v = 0) ∧
      (s.busy = false →
        (off = 0x0C → v = s.buf[3] ++ s.buf[2] ++ s.buf[1] ++ s.buf[0]) ∧
        (off = 0x10 → v = s.buf[7] ++ s.buf[6] ++ s.buf[5] ++ s.buf[4]) ∧
        (off = 0x14 → v = s.rawH.setWidth 32) ∧
        (off = 0x18 → v = s.rawT.setWidth 32) ∧
        (off = 0x1C → v = s.avgHSum.setWidth 32) ∧
        (off = 0x20 → v = s.avgTSum.setWidth 32) ∧
        (off = 0x24 → v = s.count.setWidth 32))

/-- R19: the field positions of STATUS; the reserved bits [31:28] read 0; the codes of RESULT (R108) and of
SEQ_STATE (R28). -/
def Obligations.StatusFieldsStandWhereTheTablePutsThem : Prop :=
  (∀ s : State,
    s.statusWord.getLsbD 0 = s.busy ∧
    s.statusWord.getLsbD 1 = s.configured ∧
    s.statusWord.getLsbD 2 = s.busActive ∧
    s.statusWord.getLsbD 3 = s.txnOpen ∧
    s.statusWord.extractLsb' 4 1 = s.txnDir.bit ∧
    s.statusWord.getLsbD 5 = s.decValid ∧
    s.statusWord.getLsbD 6 = s.err ∧
    s.statusWord.getLsbD 7 = s.overrun ∧
    s.statusWord.extractLsb' 8 4 = s.result.code ∧
    s.statusWord.extractLsb' 12 4 = s.seqState.code ∧
    s.statusWord.extractLsb' 16 8 = s.lastBusStatus ∧
    s.statusWord.extractLsb' 24 4 = s.retries ∧
    s.statusWord.extractLsb' 28 4 = 0) ∧
  (Result.none.code = 0 ∧ Result.ok.code = 1 ∧ Result.addrNack.code = 2 ∧
    Result.protocolFault.code = 3 ∧ Result.busTimeout.code = 4 ∧ Result.sensorBusy.code = 5 ∧
    Result.usage.code = 6 ∧ Result.illegal.code = 7) ∧
  (SeqState.idle.code = 0 ∧ SeqState.triggering.code = 1 ∧ SeqState.settling.code = 2 ∧
    SeqState.reading.code = 3 ∧ SeqState.decoding.code = 4 ∧ SeqState.ready.code = 5 ∧
    SeqState.invalid.code = 6)

/-- R44: a HOST write of v to CMD while BUSY = 0 latches v, sets RESULT to NONE and BUSY to 1, changes nothing
else, and the SEQUENCER's next step runs the command v decodes to. -/
def Obligations.CmdWriteStartsTheCommand : Prop :=
  ∀ (s : State) (rest : List Turn) (v : Word), s.busy = false →
    s.agenda = .host (.write s.params.pBase 4 v) :: rest →
    ∃ t, step s = .next t ∧
      t = { s with agenda := rest, cmdLatch := v, result := .none, busy := true, pos := .first } ∧
      ∀ i u, decodeWord v = .ok i → t.sequencerTurn = some u → step t = exec i u

/-- R33 and R45: BUF[k] is bits [8*(k mod 4)+7 : 8*(k mod 4)] of the register at 0x0C + 4*(k div 4); a HOST write
of v to BUF0 or BUF1 while BUSY = 0 sets that register's four bytes and changes nothing else. -/
def Obligations.BufferWriteSetsItsFourBytes : Prop :=
  (∀ (s : State) (k : Fin 8),
    s.buf[k] = (s.regValue (regAt (0x0C + 4 * (k.val / 4)))).extractLsb' (8 * (k.val % 4)) 8) ∧
  ∀ (s : State) (rest : List Turn) (v : Word), s.busy = false →
    (s.agenda = .host (.write (s.params.pBase + 0x0C) 4 v) :: rest →
      step s = .next { s with
        agenda := rest
        buf := #v[v.extractLsb' 0 8, v.extractLsb' 8 8, v.extractLsb' 16 8, v.extractLsb' 24 8,
          s.buf[4], s.buf[5], s.buf[6], s.buf[7]] }) ∧
    (s.agenda = .host (.write (s.params.pBase + 0x10) 4 v) :: rest →
      step s = .next { s with
        agenda := rest
        buf := #v[s.buf[0], s.buf[1], s.buf[2], s.buf[3],
          v.extractLsb' 0 8, v.extractLsb' 8 8, v.extractLsb' 16 8, v.extractLsb' 24 8] })

/-- R46: a HOST write to CMD, BUF0 or BUF1 while BUSY = 1 is dropped and sets OVERRUN; nothing else changes. -/
def Obligations.WriteWhileBusyIsDropped : Prop :=
  ∀ (s : State) (rest : List Turn) (off : Nat) (v : Word), s.busy = true →
    (off = 0x00 ∨ off = 0x0C ∨ off = 0x10) →
    s.agenda = .host (.write (s.params.pBase + off) 4 v) :: rest →
    step s = .next { s with agenda := rest, overrun := true }

/-- R47: a HOST write to a read-only register or a reserved offset is ignored, whether BUSY is 0 or 1. -/
def Obligations.ReadOnlyWriteIsIgnored : Prop :=
  ∀ (s : State) (rest : List Turn) (off : Nat) (v : Word), off < 64 → off % 4 = 0 →
    off ≠ 0x00 → off ≠ 0x0C → off ≠ 0x10 →
    s.agenda = .host (.write (s.params.pBase + off) 4 v) :: rest →
    step s = .next { s with agenda := rest }

/-! ### Encoding -/

/-- R63, R64 and R67: decoding the word of a well-formed command gives the command back, every operand
with it. -/
def Obligations.DecodeOfEncodeIsTheCommand : Prop :=
  ∀ i : Instr, i.wf = true → decodeWord (encode i) = .ok i

/-- R65 and R66: a word that decodes is the one word of its command, which is well formed: no bit of it is
dropped. -/
def Obligations.DecodedWordIsTheCommandsOnlyWord : Prop :=
  ∀ (w : Word) (i : Instr), decodeWord w = .ok i → i.wf = true ∧ encode i = w

/-- R64: the rows of the opcode map are pairwise disjoint. -/
def Obligations.AtMostOneRowSelectsAWord : Prop :=
  ∀ (w : Word) (o o' : Opcode), o.selects w = true → o'.selects w = true → o = o'

/-- R66: the words that decode to no command are those with op 0x0 or 0xD to 0xF, a reserved bit, or a bit of
an unused field; such a word ends at once with RESULT = ILLEGAL and ERR = 1, changes no other state and
emits no bus event, whatever CONFIGURED is. -/
def Obligations.IllegalWordEndsWithIllegal : Prop :=
  (∀ w : Word, (∃ e, decodeWord w = .error e) ↔ illegalWord w) ∧
  (∀ s s' : State, illegalWord s.cmdLatch → s.busy = true → s.sequencerTurn = some s' →
    step s = .next { s' with result := .illegal, err := true, busy := false, pos := .first })

/-- R67: the words of the assembler syntax, and that an operand out of its range spells no command. -/
def Obligations.AssemblerWordsAreTheEncodings : Prop :=
  ∀ k : Nat,
    (Asm.cfg k).word = (if k ≤ 255 then some (encode (.cfg (BitVec.ofNat 8 k))) else none) ∧
    (Asm.wrb k).word = (if k ≤ 255 then some (encode (.wrb (BitVec.ofNat 8 k))) else none) ∧
    (Asm.openW k).word =
      (if k ≤ 127 then some (encode (.openTxn (BitVec.ofNat 7 k) .write)) else none) ∧
    (Asm.openR k).word =
      (if k ≤ 127 then some (encode (.openTxn (BitVec.ofNat 7 k) .read)) else none) ∧
    (Asm.wrseq k).word =
      (if 1 ≤ k ∧ k ≤ 8 then some (encode (.wrseq (BitVec.ofNat 4 k))) else none) ∧
    (Asm.rdseq k).word =
      (if 1 ≤ k ∧ k ≤ 8 then some (encode (.rdseq (BitVec.ofNat 4 k))) else none) ∧
    Asm.rdbAck.word = some (encode (.rdb true)) ∧ Asm.rdbNack.word = some (encode (.rdb false)) ∧
    Asm.start.word = some (encode .start) ∧ Asm.stop.word = some (encode .stop) ∧
    Asm.close.word = some (encode .close) ∧ Asm.decode.word = some (encode .decode) ∧
    Asm.fpush.word = some (encode .fpush) ∧ Asm.measure.word = some (encode .measure)

/-- Words of spec/30_encoding.md section 6 decode to the commands they stand for. -/
def Obligations.ExampleWordsDecode : Prop :=
  decodeWord 0x00004801 = .ok (.cfg 0x48) ∧ decodeWord 0x0000AC04 = .ok (.wrb 0xAC) ∧
  decodeWord 0x00380016 = .ok (.openTxn 0x38 .read) ∧ decodeWord 0x000000C8 = .ok (.rdseq 7) ∧
  decodeWord 0x0000000C = .ok .measure ∧ decodeWord 0x0000000B = .ok .fpush

/-! ### The step -/

/-- R65: while BUSY = 1 the SEQUENCER's step is `exec` of the command CMDLATCH decodes to; and a command placed
by `withFetchWord` is run by the very next step (the model's choice, notes/assumptions/9). WAIT of R69 is a
read of STATUS that the HOST gets, and is taken again while it reads BUSY = 1; that the SEQUENCER has one turn
before the next read is the model's choice (notes/assumptions/8). -/
def Obligations.StepRunsTheLatchedCommand : Prop :=
  (∀ (s s' : State) (i : Instr), s.busy = true → s.sequencerTurn = some s' →
    decodeWord s.cmdLatch = .ok i → step s = exec i s') ∧
  (∀ (s : State) (i : Instr), i.wf = true →
    step (s.withFetchWord 32 (encode i).toNat) =
      exec i { s with cmdLatch := encode i, result := .none, busy := true, pos := .first }) ∧
  (∀ (s : State) (rest : List Turn), s.agenda = .wait :: rest →
    step s = .next { s with
      hostReads := s.hostReads ++ [s.statusWord]
      agenda := if s.busy then .sequencer :: .wait :: rest else rest })

/-- R124 and R97: with BUSY = 0 the SEQUENCER does nothing, and only a HOST write to CMD makes BUSY 1. -/
def Obligations.BlockStartsNothingByItself : Prop :=
  ∀ s : State, s.busy = false →
    (∀ s', s.sequencerTurn = some s' → step s = .next s') ∧
    (∀ t, step s = .next t → t.busy = true →
      ∃ v rest, s.agenda = .host (.write s.params.pBase 4 v) :: rest)

/-! ### Commands: common rules -/

/-- R52: the answer of a bus wait comes from the BUS environment, and taking it changes no state of the block. That
it is the next listed one, and a draw where none is listed, is the model's choice (notes/assumptions/4). -/
def Obligations.AnswersComeFromTheEnvironment : Prop :=
  ∀ s : State,
    (∀ a rest, s.answers = a :: rest → s.nextAnswer = (a, { s with answers := rest })) ∧
    (s.answers = [] →
      s.nextAnswer = (Config.busAnswer s.draws, { s with draws := s.draws + 1 }))

/-- R107: `finish(r)`, the last step of every command that waits for the bus (a step of its own by R54,
notes/assumptions/6). -/
def Obligations.EndingStepFinishes : Prop :=
  ∀ (i : Instr) (s : State) (r : Result), i.wf = true → waitsOnBus i = true →
    s.pos = .ending r →
    exec i s = .next { s with
      result := r
      err := s.err || r == .usage || r == .illegal
      busy := false
      pos := .first }

/-- R70: `RequireConfigured()` stops nine commands while CONFIGURED = 0, changing nothing but RESULT, ERR and
BUSY; CFG, DECODE and FPUSH do not run it, and they drive no bus event. -/
def Obligations.UnconfiguredBusCommandIsStopped : Prop :=
  ∀ s : State, s.pos = .first → s.configured = false →
    (∀ i : Instr, i.wf = true → needsConfigured i = true → exec i s = .next s.usageEnd) ∧
    (∀ b, s.busActive = false →
      ∃ t, exec (.cfg b) s = .next t ∧ t.result = .ok ∧ t.history = s.history) ∧
    (∃ t, exec .decode s = .next t ∧ t.result ≠ .usage ∧ t.history = s.history) ∧
    (s.decValid = true →
      ∃ t, exec .fpush s = .next t ∧ t.result = .ok ∧ t.history = s.history)

/-- R110: a command ends with USAGE, emitting nothing and changing only RESULT, ERR and BUSY, in exactly the
cases where the precondition of the table is false. -/
def Obligations.UsageExactlyWhenThePreconditionFails : Prop :=
  ∀ (i : Instr) (s : State), i.wf = true → s.busy = true →
    (s.pos = .first → precondition i s = false → exec i s = .next s.usageEnd) ∧
    ((s.pos = .first → precondition i s = true) → s.pos ≠ .ending .usage →
      ∀ t, exec i s = .next t → t.pos ≠ .ending .usage ∧
        (t.busy = false → t.result ≠ .usage))

/-- R78: `Fail` emits exactly one P when P_ABORT_STOP = 1 and nothing when it is 0, and closes the
transaction. -/
def Obligations.FailAbortsTheTransaction : Prop :=
  ∀ s : State, s.fail =
    if s.params.abortStop then
      { s with history := s.history ++ [.stop], busActive := false, txnOpen := false }
    else { s with txnOpen := false }

/-- R53: with P_WAIT_BOUND = 0 a wait the bus does not answer leaves the SEQUENCER without a step, at every one of
a command's waits. That the block's state, H and BUS_ACTIVE among it, is then as before the wait's event, and
that only the environment's draw is taken, is the model's choice (notes/assumptions/7, DEDUCED from R53 and
R54). A wait that is answered, and with P_WAIT_BOUND ≥ 1 every wait, ends: its own event stands in H, followed
at most by one P. -/
def Obligations.OnlyUnansweredUnboundedWaitsHang : Prop :=
  ∀ (i : Instr) (s : State), i.wf = true → waitsHere i s →
    (s.params.waitBound = 0 → s.nextAnswer.1 = .silent → exec i s = .next s.nextAnswer.2) ∧
    (s.params.waitBound ≠ 0 ∨ s.nextAnswer.1 ≠ .silent →
      ∃ t l, exec i s = .next t ∧ t.history = s.history ++ waitEvent i s :: l ∧
        (l = [] ∨ l = [.stop]))

/-- R108: a command that ends has one of the results the table lets it raise. -/
def Obligations.CommandEndsWithAResultItMayRaise : Prop :=
  ∀ (i : Instr) (s t : State), i.wf = true → s.busy = true → posBelongs i s.pos = true →
    exec i s = .next t → t.busy = false → mayEnd i t.result = true

/-- R112: ERR and OVERRUN are records only; no command reads them. -/
def Obligations.NoCommandReadsErrOrOverrun : Prop :=
  ∀ (i : Instr) (s t : State) (e o : Bool), exec i s = .next t →
    ∃ e', exec i { s with err := e, overrun := o } = .next { t with err := e', overrun := o }

/-! ### Bus Link Layer -/

/-- R73: CFG. -/
def Obligations.CfgSetsTheDivisor : Prop :=
  ∀ (b : Byte) (s : State), s.pos = .first →
    (s.busActive = false → exec (.cfg b) s =
      .next { s with busDiv := b, configured := true, result := .ok, busy := false }) ∧
    (s.busActive = true → exec (.cfg b) s = .next s.usageEnd)

/-- R74: START emits S, or Sr on an active bus, sets BUS_ACTIVE whatever the bus answers, and ends with OK for
every status, with BUS_TIMEOUT and no P on a timeout, with USAGE while CONFIGURED = 0. -/
def Obligations.StartEmitsStartOrRepeatedStart : Prop :=
  ∀ s : State, s.pos = .first →
    (s.configured = false → exec .start s = .next s.usageEnd) ∧
    (s.configured = true → ∀ st x t, s.nextAnswer = (.done st x, t) →
      ∃ u, exec .start s = .next u ∧
        u = { t with
          history := s.history ++ [if s.busActive then .repStart else .start]
          busActive := true, lastBusStatus := st, pos := .ending .ok } ∧
        exec .start u = .next { u with result := .ok, busy := false, pos := .first }) ∧
    (s.configured = true → s.params.waitBound ≠ 0 → ∀ t, s.nextAnswer = (.silent, t) →
      ∃ u, exec .start s = .next u ∧
        u = { t with
          history := s.history ++ [if s.busActive then .repStart else .start]
          busActive := true, pos := .ending .busTimeout } ∧
        exec .start u = .next { u with result := .busTimeout, busy := false, pos := .first })

/-- R75 and R85: STOP and CLOSE emit P, on an idle bus too, end the transaction and have the same effect. -/
def Obligations.StopAndCloseEmitStop : Prop :=
  ∀ (i : Instr) (s : State), i = .stop ∨ i = .close → s.pos = .first →
    (s.configured = true → exec i s = .next { s with
      history := s.history ++ [.stop], busActive := false, txnOpen := false,
      result := .ok, busy := false }) ∧
    (s.configured = false → exec i s = .next s.usageEnd)

/-- R76: WRB sends its byte and ends with OK for every status. -/
def Obligations.WrbSendsItsByte : Prop :=
  ∀ (b : Byte) (s : State), s.pos = .first →
    (s.configured = false ∨ s.busActive = false → exec (.wrb b) s = .next s.usageEnd) ∧
    (s.configured = true → s.busActive = true → ∀ st x t, s.nextAnswer = (.done st x, t) →
      ∃ u, exec (.wrb b) s = .next u ∧
        u = { t with
          history := s.history ++ [.tx b], lastBusStatus := st, pos := .ending .ok } ∧
        exec (.wrb b) u = .next { u with result := .ok, busy := false, pos := .first }) ∧
    (s.configured = true → s.busActive = true → s.params.waitBound ≠ 0 →
      ∀ t, s.nextAnswer = (.silent, t) →
      ∃ u, exec (.wrb b) s = .next u ∧
        u = { t with history := s.history ++ [.tx b], pos := .ending .busTimeout } ∧
        exec (.wrb b) u = .next { u with result := .busTimeout, busy := false, pos := .first })

/-- R77: RDB receives a byte into BUF[0] whatever the status is, and not on a timeout. -/
def Obligations.RdbReceivesIntoBufZero : Prop :=
  ∀ (ack : Bool) (s : State), s.pos = .first →
    (s.configured = false ∨ s.busActive = false → exec (.rdb ack) s = .next s.usageEnd) ∧
    (s.configured = true → s.busActive = true → ∀ st x t, s.nextAnswer = (.done st x, t) →
      ∃ u, exec (.rdb ack) s = .next u ∧
        u = { t with
          history := s.history ++ [.rx ack], lastBusStatus := st, pos := .ending .ok
          buf := #v[x, s.buf[1], s.buf[2], s.buf[3], s.buf[4], s.buf[5], s.buf[6], s.buf[7]] } ∧
        exec (.rdb ack) u = .next { u with result := .ok, busy := false, pos := .first }) ∧
    (s.configured = true → s.busActive = true → s.params.waitBound ≠ 0 →
      ∀ t, s.nextAnswer = (.silent, t) →
      ∃ u, exec (.rdb ack) s = .next u ∧
        u = { t with history := s.history ++ [.rx ack], pos := .ending .busTimeout } ∧
        exec (.rdb ack) u = .next { u with result := .busTimeout, busy := false, pos := .first })

/-! ### Transaction Engine -/

/-- R79 and R82: OPEN stopped by a check emits nothing; its checks passed, it emits S or Sr and expects ST_START
or ST_REP_START; at its address phase the ACK code of the direction opens the transaction, its NACK code gives
ADDR_NACK, any other status PROTOCOL_FAULT, a timeout BUS_TIMEOUT, each error after `Fail`. -/
def Obligations.OpenJudgesEveryStatus : Prop :=
  ∀ (a7 : DeviceAddr) (d : Direction) (s : State),
    (s.pos = .first → s.configured = false ∨ s.txnOpen = true →
      exec (.openTxn a7 d) s = .next s.usageEnd) ∧
    (s.pos = .first → s.configured = true → s.txnOpen = false →
      (∀ st x t, s.nextAnswer = (.done st x, t) →
        exec (.openTxn a7 d) s = .next (
          let u : State := { t with
            history := s.history ++ [if s.busActive then .repStart else .start]
            busActive := true, lastBusStatus := st }
          if st = (if s.busActive then s.params.st.repStart else s.params.st.start) then
            { u with pos := .address }
          else { u.fail with pos := .ending .protocolFault })) ∧
      (s.params.waitBound ≠ 0 → ∀ t, s.nextAnswer = (.silent, t) →
        exec (.openTxn a7 d) s = .next (
          let u : State := { t with
            history := s.history ++ [if s.busActive then .repStart else .start], busActive := true }
          { u.fail with pos := .ending .busTimeout }))) ∧
    (s.pos = .address →
      (∀ st x t, s.nextAnswer = (.done st x, t) →
        exec (.openTxn a7 d) s = .next (
          let u : State := { t with
            history := s.history ++ [.tx (a7 ++ d.bit)], lastBusStatus := st }
          if st = (if d = .write then s.params.st.slawAck else s.params.st.slarAck) then
            { u with txnOpen := true, txnDir := d, pos := .ending .ok }
          else if st = (if d = .write then s.params.st.slawNack else s.params.st.slarNack) then
            { u.fail with pos := .ending .addrNack }
          else { u.fail with pos := .ending .protocolFault })) ∧
      (s.params.waitBound ≠ 0 → ∀ t, s.nextAnswer = (.silent, t) →
        exec (.openTxn a7 d) s = .next (
          let u : State := { t with history := s.history ++ [.tx (a7 ++ d.bit)] }
          { u.fail with pos := .ending .busTimeout })))

/-- R82: OPEN completes on a bus that answers its start and its address byte as expected. -/
def Obligations.OpenCompletes : Prop :=
  ∀ (a7 : DeviceAddr) (d : Direction) (s : State) (x y : Byte) (rest : List BusAnswer),
    s.pos = .first → s.configured = true → s.txnOpen = false →
    s.answers = .done (if s.busActive then s.params.st.repStart else s.params.st.start) x ::
      .done (if d = .write then s.params.st.slawAck else s.params.st.slarAck) y :: rest →
    (∃ t, exec (.openTxn a7 d) s = .next t) ∧
    execSteps 3 (.openTxn a7 d) s = .next { s with
      answers := rest
      history := s.history ++ [if s.busActive then .repStart else .start, .tx (a7 ++ d.bit)]
      busActive := true, txnOpen := true, txnDir := d
      lastBusStatus := if d = .write then s.params.st.slawAck else s.params.st.slarAck
      result := .ok, busy := false }

/-- R80 and R83: at byte k, WRSEQ sends BUF[k] and goes on only on ST_TXD_ACK; the last byte ends it with OK and
the transaction stays open; a mismatch or a timeout aborts. -/
def Obligations.WrseqSendsOneByteAStep : Prop :=
  ∀ (n : BitVec 4) (s : State) (k : Fin 8), 1 ≤ n.toNat → n.toNat ≤ 8 → k.val < n.toNat →
    (s.pos = .first ∧ k = 0 ∧ s.configured = true ∧ s.txnOpen = true ∧ s.txnDir = .write) ∨
      s.pos = .data k →
    (∀ st x t, s.nextAnswer = (.done st x, t) →
      exec (.wrseq n) s = .next (
        let u : State := { t with history := s.history ++ [.tx s.buf[k]], lastBusStatus := st }
        if st = s.params.st.txdAck then
          { u with pos := if k.val + 1 < n.toNat then .data (k + 1) else .ending .ok }
        else { u.fail with pos := .ending .protocolFault })) ∧
    (s.params.waitBound ≠ 0 → ∀ t, s.nextAnswer = (.silent, t) →
      exec (.wrseq n) s = .next (
        let u : State := { t with history := s.history ++ [.tx s.buf[k]] }
        { u.fail with pos := .ending .busTimeout }))

/-- R83: WRSEQ completes on a bus that acknowledges its n bytes: exactly TX(BUF[0]) to TX(BUF[n-1]), in order,
the transaction left open. -/
def Obligations.WrseqCompletes : Prop :=
  ∀ (n : BitVec 4) (s : State) (ds : List Byte) (rest : List BusAnswer),
    1 ≤ n.toNat → n.toNat ≤ 8 → ds.length = n.toNat →
    s.pos = .first → s.configured = true → s.txnOpen = true → s.txnDir = .write →
    s.answers = ds.map (fun x => .done s.params.st.txdAck x) ++ rest →
    (∃ t, exec (.wrseq n) s = .next t) ∧
    execSteps (n.toNat + 1) (.wrseq n) s = .next { s with
      answers := rest
      history := s.history ++ (s.buf.toList.take n.toNat).map .tx
      lastBusStatus := s.params.st.txdAck, result := .ok, busy := false }

/-- R81 and R84: at byte k, RDSEQ emits RX with ACK for every byte but the last, stores the byte only when its
status matched, and aborts on a mismatch or a timeout. -/
def Obligations.RdseqReceivesOneByteAStep : Prop :=
  ∀ (n : BitVec 4) (s : State) (k : Fin 8), 1 ≤ n.toNat → n.toNat ≤ 8 → k.val < n.toNat →
    (s.pos = .first ∧ k = 0 ∧ s.configured = true ∧ s.txnOpen = true ∧ s.txnDir = .read) ∨
      s.pos = .data k →
    (∀ st x t, s.nextAnswer = (.done st x, t) →
      exec (.rdseq n) s = .next (
        let u : State := { t with
          history := s.history ++ [.rx (decide (k.val + 1 < n.toNat))], lastBusStatus := st }
        if st = (if k.val + 1 < n.toNat then s.params.st.rxdAck else s.params.st.rxdNack) then
          { u with
            buf := s.buf.set k x
            pos := if k.val + 1 < n.toNat then .data (k + 1) else .ending .ok }
        else { u.fail with pos := .ending .protocolFault })) ∧
    (s.params.waitBound ≠ 0 → ∀ t, s.nextAnswer = (.silent, t) →
      exec (.rdseq n) s = .next (
        let u : State := { t with history := s.history ++ [.rx (decide (k.val + 1 < n.toNat))] }
        { u.fail with pos := .ending .busTimeout }))

/-- R84 and R87: RDSEQ completes on a bus that answers its n bytes as expected: n-1 events RX(1), then one
RX(0), the bytes in BUF[0..n-1] and BUF[n..7] unchanged. -/
def Obligations.RdseqCompletes : Prop :=
  ∀ (n : BitVec 4) (s : State) (ds : List Byte) (last : Byte) (rest : List BusAnswer),
    n.toNat ≤ 8 → ds.length + 1 = n.toNat →
    s.pos = .first → s.configured = true → s.txnOpen = true → s.txnDir = .read →
    s.answers = ds.map (fun x => .done s.params.st.rxdAck x) ++
      .done s.params.st.rxdNack last :: rest →
    (∃ t, exec (.rdseq n) s = .next t) ∧
    execSteps (n.toNat + 1) (.rdseq n) s = .next { s with
      answers := rest
      history := s.history ++ List.replicate ds.length (.rx true) ++ [.rx false]
      buf := overwritten s.buf (ds ++ [last])
      lastBusStatus := s.params.st.rxdNack, result := .ok, busy := false }

/-- R86: after an address NACK the only further event is the one P of the abort, and a following WRSEQ or RDSEQ
ends with USAGE and emits nothing. -/
def Obligations.NackedOpenIsFollowedByOneStop : Prop :=
  ∀ (a7 : DeviceAddr) (d : Direction) (s : State) (x y : Byte) (rest : List BusAnswer),
    s.pos = .first → s.configured = true → s.txnOpen = false → s.params.abortStop = true →
    s.params.st.wf = true →
    s.answers = .done (if s.busActive then s.params.st.repStart else s.params.st.start) x ::
      .done (if d = .write then s.params.st.slawNack else s.params.st.slarNack) y :: rest →
    ∃ t, execSteps 3 (.openTxn a7 d) s = .next t ∧ t.result = .addrNack ∧
      t.history = s.history ++
        [if s.busActive then .repStart else .start, .tx (a7 ++ d.bit), .stop] ∧
      ∀ (w : Word) (n : BitVec 4), n ≠ 0 → n ≤ 8 →
        exec (.wrseq n) (t.startCommand w) = .next (t.startCommand w).usageEnd ∧
        exec (.rdseq n) (t.startCommand w) = .next (t.startCommand w).usageEnd

/-! ### Sensor Protocol -/

/-- R94: DECODE of a frame whose busy bit is clear writes RAW_H, RAW_T and DEC_VALID; of a busy frame only
clears DEC_VALID and ends with SENSOR_BUSY. It needs no CONFIGURED and emits nothing. -/
def Obligations.DecodeSplitsTheFrame : Prop :=
  ∀ s : State, s.pos = .first →
    (s.buf[0].getLsbD 7 = false → exec .decode s = .next { s with
      rawH := s.buf[1] ++ s.buf[2] ++ s.buf[3].extractLsb' 4 4
      rawT := s.buf[3].extractLsb' 0 4 ++ s.buf[4] ++ s.buf[5]
      decValid := true, result := .ok, busy := false }) ∧
    (s.buf[0].getLsbD 7 = true → exec .decode s = .next { s with
      decValid := false, result := .sensorBusy, busy := false })

/-- R90 and R92: the arithmetic form of the two fields of a frame, the ranges of the physical values, and their
quantization steps. -/
def Obligations.RawFieldsAndPhysicalValues : Prop :=
  (∀ f1 f2 f3 f4 f5 : Byte,
    (rawHumidity f1 f2 f3).toNat = f1.toNat * 4096 + f2.toNat * 16 + f3.toNat / 16 ∧
    (rawTemperature f3 f4 f5).toNat = f3.toNat % 16 * 65536 + f4.toNat * 256 + f5.toNat ∧
    (rawHumidity f1 f2 f3).toNat ≤ 1048575 ∧ (rawTemperature f3 f4 f5).toNat ≤ 1048575) ∧
  (∀ x : Field,
    0 ≤ humidity x ∧ humidity x ≤ 100 - 100 / 2 ^ 20 ∧
    -50 ≤ temperature x ∧ temperature x ≤ 150 - 200 / 2 ^ 20 ∧
    ∀ y : Field, y.toNat = x.toNat + 1 →
      humidity y - humidity x = 100 / 2 ^ 20 ∧ temperature y - temperature x = 200 / 2 ^ 20)

/-- R99: every pair of raw fields has a frame that is not busy and decodes to it, with the bytes the rule gives; and
packing a humidity and a temperature by the floor rule loses less than one quantization step. -/
def Obligations.PackedFrameDecodesWithinOneStep : Prop :=
  (∀ rh rt : Field, ∃ f : Vector Byte 7,
    f[0].getLsbD 7 = false ∧
    f[1].toNat = rh.toNat / 4096 ∧ f[2].toNat = rh.toNat / 16 % 256 ∧
    f[3].toNat = rh.toNat % 16 * 16 + rt.toNat / 65536 ∧
    f[4].toNat = rt.toNat / 256 % 256 ∧ f[5].toNat = rt.toNat % 256 ∧
    rawHumidity f[1] f[2] f[3] = rh ∧ rawTemperature f[3] f[4] f[5] = rt) ∧
  (∀ h : Rat, 0 ≤ h → h < 100 →
    h - 100 / 2 ^ 20 < humidity (packHumidity h) ∧ humidity (packHumidity h) ≤ h) ∧
  (∀ t : Rat, -50 ≤ t → t < 150 →
    t - 200 / 2 ^ 20 < temperature (packTemperature t) ∧ temperature (packTemperature t) ≤ t)

/-- R95, TRIGGERING: MEASURE with its checks passed sets RETRIES to 0 and SEQ_STATE to TRIGGERING with its S or
Sr (a restart from Triggering keeps RETRIES), then sends 0x70, 0xAC, 0x33 and 0x00, BUF not used; after the
last byte come P and SETTLING. -/
def Obligations.MeasureTriggersTheSensor : Prop :=
  ∀ (s t : State) (st x : Byte), s.nextAnswer = (.done st x, t) →
    ((s.pos = .first ∧ s.configured = true ∧ s.txnOpen = false) ∨ s.pos = .trigStart →
      exec .measure s = .next (
        let u : State := { t with
          retries := if s.pos = .first then 0 else s.retries
          seqState := .triggering
          history := s.history ++ [if s.busActive then .repStart else .start]
          busActive := true, lastBusStatus := st }
        if st = (if s.busActive then s.params.st.repStart else s.params.st.start) then
          { u with pos := .trigAddress }
        else { u.fail with seqState := .invalid, pos := .ending .protocolFault })) ∧
    (s.pos = .trigAddress → st = s.params.st.slawAck → exec .measure s = .next { t with
      history := s.history ++ [.tx 0x70], lastBusStatus := st
      txnOpen := true, txnDir := .write, pos := .trigData 0 }) ∧
    (s.pos = .trigData 0 → st = s.params.st.txdAck → exec .measure s = .next { t with
      history := s.history ++ [.tx 0xAC], lastBusStatus := st, pos := .trigData 1 }) ∧
    (s.pos = .trigData 1 → st = s.params.st.txdAck → exec .measure s = .next { t with
      history := s.history ++ [.tx 0x33], lastBusStatus := st, pos := .trigData 2 }) ∧
    (s.pos = .trigData 2 → st = s.params.st.txdAck → exec .measure s = .next { t with
      history := s.history ++ [.tx 0x00, .stop], lastBusStatus := st
      busActive := false, txnOpen := false, seqState := .settling, pos := .settling })

/-- R95, R117, SETTLING and READING: the Settle step is always enabled, asks no draw and leaves its marker in H;
then a fresh OpenSeq in direction Read with the address byte 0x71, and frame bytes with ACK into BUF[0] to
BUF[5]. -/
def Obligations.MeasureSettlesAndReadsTheFrame : Prop :=
  (∀ s : State, s.pos = .settling → exec .measure s = .next { s with
    history := s.history ++ [.settle], seqState := .reading, pos := .readStart }) ∧
  ∀ (s t : State) (st x : Byte), s.nextAnswer = (.done st x, t) →
    (s.pos = .readStart →
      st = (if s.busActive then s.params.st.repStart else s.params.st.start) →
      exec .measure s = .next { t with
        history := s.history ++ [if s.busActive then .repStart else .start]
        busActive := true, lastBusStatus := st, pos := .readAddress }) ∧
    (s.pos = .readAddress → st = s.params.st.slarAck → exec .measure s = .next { t with
      history := s.history ++ [.tx 0x71], lastBusStatus := st
      txnOpen := true, txnDir := .read, pos := .readData 0 }) ∧
    (∀ k : Fin 7, k.val < 6 → s.pos = .readData k → st = s.params.st.rxdAck →
      exec .measure s = .next { t with
        history := s.history ++ [.rx true], lastBusStatus := st
        buf := s.buf.set k.val x, pos := .readData (k + 1) })

/-- R95 and R96, DECODING: after the last frame byte one P, then READY with the sample decoded and pushed, or a
restart from Triggering while retries are left, or INVALID with SENSOR_BUSY. That this is inside the
step of the last byte is read from R54 (notes/assumptions/6). -/
def Obligations.MeasureDecodesTheFrame : Prop :=
  ∀ s : State, s.pos = .readData 6 → ∀ st x t, s.nextAnswer = (.done st x, t) →
    st = s.params.st.rxdNack →
    exec .measure s = .next (
      let u : State := { t with
        history := s.history ++ [.rx false, .stop], lastBusStatus := st, buf := s.buf.set 6 x
        busActive := false, txnOpen := false }
      if s.buf[0].getLsbD 7 then
        if s.retries < s.params.busyRetries then
          { u with decValid := false, retries := s.retries + 1, seqState := .triggering
                   pos := .trigStart }
        else { u with decValid := false, seqState := .invalid, pos := .ending .sensorBusy }
      else
        let h := s.buf[1] ++ s.buf[2] ++ s.buf[3].extractLsb' 4 4
        let r := s.buf[3].extractLsb' 0 4 ++ s.buf[4] ++ s.buf[5]
        { u with
          rawH := h, rawT := r, decValid := true
          winH := s.winH.set s.wrIdx h, winT := s.winT.set s.wrIdx r
          wrIdx := s.wrIdx + 1, count := if s.count = 3 then 3 else s.count + 1
          seqState := .ready, pos := .ending .ok })

/-- R95 and R108: at every bus wait of MEASURE a timeout gives BUS_TIMEOUT, the NACK code of an address phase
ADDR_NACK and any other unexpected status PROTOCOL_FAULT: `Fail`, SEQ_STATE INVALID, and the command ends,
the filter, RAW_H, RAW_T, DEC_VALID and BUF as they were. -/
def Obligations.MeasureReportsCommunicationFailures : Prop :=
  ∀ s : State, waitsHere .measure s →
    (s.params.waitBound ≠ 0 → s.nextAnswer.1 = .silent →
      ∃ u : State, exec .measure s =
        .next { u with seqState := .invalid, pos := .ending .busTimeout } ∧
        u.history = s.history ++ measureEvent s :: (if s.params.abortStop then [.stop] else []) ∧
        u.lastBusStatus = s.lastBusStatus ∧ u.txnOpen = false ∧ u.buf = s.buf ∧
        u.winH = s.winH ∧ u.winT = s.winT ∧ u.wrIdx = s.wrIdx ∧ u.count = s.count ∧
        u.rawH = s.rawH ∧ u.rawT = s.rawT ∧ u.decValid = s.decValid) ∧
    (∀ st x, s.nextAnswer.1 = .done st x →
      st ≠ (match s.pos with
        | .trigAddress => s.params.st.slawAck
        | .trigData _ => s.params.st.txdAck
        | .readAddress => s.params.st.slarAck
        | .readData k => if k.val < 6 then s.params.st.rxdAck else s.params.st.rxdNack
        | _ => if s.busActive then s.params.st.repStart else s.params.st.start) →
      ∃ u : State, exec .measure s =
        .next { u with
          seqState := .invalid
          pos := .ending
            (if (s.pos = .trigAddress ∧ st = s.params.st.slawNack) ∨
                (s.pos = .readAddress ∧ st = s.params.st.slarNack) then .addrNack
              else .protocolFault) } ∧
        u.history = s.history ++ measureEvent s :: (if s.params.abortStop then [.stop] else []) ∧
        u.lastBusStatus = st ∧ u.txnOpen = false ∧ u.buf = s.buf ∧
        u.winH = s.winH ∧ u.winT = s.winT ∧ u.wrIdx = s.wrIdx ∧ u.count = s.count ∧
        u.rawH = s.rawH ∧ u.rawT = s.rawT ∧ u.decValid = s.decValid)

/-- R95: MEASURE completes with a sensor that goes along and whose frame is not busy: the 17 events of V-MEA-1,
the frame in BUF[0..6], the sample decoded and pushed, READY, OK. -/
def Obligations.MeasureCompletes : Prop :=
  ∀ (s : State) (f : Vector Byte 7) (x : Byte) (rest : List BusAnswer),
    s.pos = .first → s.configured = true → s.txnOpen = false → f[0].getLsbD 7 = false →
    s.answers = cycleAnswers s.params.st
      (if s.busActive then s.params.st.repStart else s.params.st.start) f x ++ rest →
    (∃ t, exec .measure s = .next t) ∧
    execSteps 16 .measure s = .next { s with
      answers := rest
      history := s.history ++ cycleEvents (if s.busActive then .repStart else .start)
      busActive := false, txnOpen := false, txnDir := .read
      lastBusStatus := s.params.st.rxdNack, retries := 0, seqState := .ready
      buf := #v[f[0], f[1], f[2], f[3], f[4], f[5], f[6], s.buf[7]]
      rawH := rawHumidity f[1] f[2] f[3], rawT := rawTemperature f[3] f[4] f[5], decValid := true
      winH := s.winH.set s.wrIdx (rawHumidity f[1] f[2] f[3])
      winT := s.winT.set s.wrIdx (rawTemperature f[3] f[4] f[5])
      wrIdx := s.wrIdx + 1, count := if s.count = 3 then 3 else s.count + 1
      result := .ok, busy := false }

/-! ### Smoothing Filter -/

/-- R100 and R101: FPUSH pushes the decoded sample into slot WR_IDX; without one it ends with USAGE. -/
def Obligations.FpushPushesTheDecodedSample : Prop :=
  ∀ s : State, s.pos = .first →
    (s.decValid = true → exec .fpush s = .next { s with
      winH := s.winH.set s.wrIdx s.rawH, winT := s.winT.set s.wrIdx s.rawT
      wrIdx := s.wrIdx + 1, count := if s.count = 3 then 3 else s.count + 1
      result := .ok, busy := false }) ∧
    (s.decValid = false → exec .fpush s = .next s.usageEnd)

/-- R104: after k pushes since reset COUNT = min(k, 3), WR_IDX = k mod 3, the last three samples stand in their
slots, and the sums are those of the min(k, 3) most recent samples, whatever was pushed before them. -/
def Obligations.WindowHoldsTheLastThreeSamples : Prop :=
  ∀ (p : Params) (l : List (Field × Field)),
    ((State.resetWith p).pushAll l).count.toNat = min l.length 3 ∧
    ((State.resetWith p).pushAll l).wrIdx.val = l.length % 3 ∧
    (∀ (j : Nat) (h : j < l.length), l.length ≤ j + 3 →
      ((State.resetWith p).pushAll l).winH[j % 3] = (l[j]).1 ∧
      ((State.resetWith p).pushAll l).winT[j % 3] = (l[j]).2) ∧
    ((State.resetWith p).pushAll l).avgHSum.toNat =
      ((l.drop (l.length - 3)).map (fun x => x.1.toNat)).sum ∧
    ((State.resetWith p).pushAll l).avgTSum.toNat =
      ((l.drop (l.length - 3)).map (fun x => x.2.toNat)).sum

/-- R102: the sums are over the slots i < COUNT, fit in 22 bits, and are 0 for COUNT = 0. -/
def Obligations.SumsAreOverThePopulatedSlots : Prop :=
  ∀ s : State,
    s.avgHSum.toNat = ((List.finRange 3).map
      (fun i : Fin 3 => if i.val < s.count.toNat then s.winH[i].toNat else 0)).sum ∧
    s.avgTSum.toNat = ((List.finRange 3).map
      (fun i : Fin 3 => if i.val < s.count.toNat then s.winT[i].toNat else 0)).sum ∧
    s.avgHSum.toNat ≤ 3145725 ∧ s.avgTSum.toNat ≤ 3145725

/-- R103: the average is unavailable for AVG_COUNT = 0, and else the means of the physical values of the
populated samples. -/
def Obligations.AverageIsTheMeanOfThePhysicalValues : Prop :=
  ∀ s : State,
    (s.count = 0 → s.average = none) ∧
    (s.count ≠ 0 → s.average = some
      (((s.winH.toList.take s.count.toNat).map humidity).sum / s.count.toNat,
        ((s.winT.toList.take s.count.toNat).map temperature).sum / s.count.toNat))

/-! ### What a step changes and leaves unchanged -/

/-- No command changes the parameters, CMDLATCH, OVERRUN, the HOST's turns or values, and H only grows at its
end (R37, R46, R51, R57). -/
def Obligations.NoCommandTouchesTheInterface : Prop :=
  ∀ (i : Instr) (s t : State), exec i s = .next t →
    t.params = s.params ∧ t.cmdLatch = s.cmdLatch ∧ t.overrun = s.overrun ∧
    t.agenda = s.agenda ∧ t.hostReads = s.hostReads ∧ ∃ l, t.history = s.history ++ l

/-- The registers a command leaves unchanged: each "State written" list of R73 to R101, read the other way
round. -/
def Obligations.CommandsWriteOnlyTheirRegisters : Prop :=
  ∀ (i : Instr) (s t : State), exec i s = .next t →
    ((∀ b, i ≠ .cfg b) → t.busDiv = s.busDiv ∧ t.configured = s.configured) ∧
    (i ≠ .decode → i ≠ .measure →
      t.rawH = s.rawH ∧ t.rawT = s.rawT ∧ t.decValid = s.decValid) ∧
    (i ≠ .fpush → i ≠ .measure →
      t.winH = s.winH ∧ t.winT = s.winT ∧ t.wrIdx = s.wrIdx ∧ t.count = s.count) ∧
    (i ≠ .measure → t.seqState = s.seqState ∧ t.retries = s.retries) ∧
    (waitsOnBus i = false →
      t.lastBusStatus = s.lastBusStatus ∧ t.answers = s.answers ∧ t.draws = s.draws) ∧
    (i ≠ .measure → (∀ a d, i ≠ .openTxn a d) → t.txnDir = s.txnDir) ∧
    (i ≠ .stop → i ≠ .close → judgesStatus i = false → t.txnOpen = s.txnOpen) ∧
    ((∃ b, i = .cfg b) ∨ (∃ b, i = .wrb b) ∨ (∃ a, i = .rdb a) ∨ i = .decode ∨ i = .fpush →
      t.busActive = s.busActive) ∧
    ((∃ b, i = .cfg b) ∨ i = .decode ∨ i = .fpush → t.history = s.history)

/-- R128 and R32: RDB writes only BUF[0], RDSEQ n only BUF[0..n-1], MEASURE only BUF[0..6], and no other command
writes BUF. -/
def Obligations.CommandsWriteOnlyTheirBufferBytes : Prop :=
  ∀ (i : Instr) (s t : State) (k : Fin 8), posBelongs i s.pos = true → exec i s = .next t →
    (∀ a, i = .rdb a → 0 < k.val) → (∀ n, i = .rdseq n → n.toNat ≤ k.val) →
    (i = .measure → k.val = 7) → t.buf[k] = s.buf[k]

/-- R25 and R26: ERR becomes 1 when a command ends with USAGE or ILLEGAL, OVERRUN when the HOST writes CMD, BUF0
or BUF1 while BUSY = 1, and only reset clears either. -/
def Obligations.ErrAndOverrunAreSticky : Prop :=
  ∀ s t : State, step s = .next t →
    ((∀ rest, s.agenda ≠ .reset :: rest) →
      (s.err = true → t.err = true) ∧ (s.overrun = true → t.overrun = true)) ∧
    (s.err = false → t.err = true →
      s.busy = true ∧ t.busy = false ∧ (t.result = .usage ∨ t.result = .illegal)) ∧
    (s.busy = true → t.busy = false → (t.result = .usage ∨ t.result = .illegal) → t.err = true) ∧
    (s.overrun = false → (t.overrun = true ↔ s.busy = true ∧
      ∃ off v rest, (off = 0x00 ∨ off = 0x0C ∨ off = 0x10) ∧
        s.agenda = .host (.write (s.params.pBase + off) 4 v) :: rest))

/-- R105: no command empties the window, and no HOST access does; only reset does. -/
def Obligations.OnlyResetEmptiesTheWindow : Prop :=
  ∀ s t : State, (∀ rest, s.agenda ≠ .reset :: rest) → step s = .next t → s.count ≤ t.count

/-! ### Invariants and whole-machine rules -/

/-- The invariant of the block holds at reset, for every choice of the parameters, and the engine-only invariant
for every HOST that keeps to R88's commands. -/
def Obligations.ResetMeetsTheInvariants : Prop :=
  (∀ p : Params, (State.resetWith p).Inv) ∧ State.reset.Inv ∧
  ∀ (p : Params) (turns : List Turn), p.abortStop = true →
    turns.all (engineTurn p) = true → ({ State.resetWith p with agenda := turns }).EngineInv

/-- Every step, of the HOST, the SEQUENCER or the reset input, keeps the invariant of the block: RESULT reads
NONE while BUSY (R127), the position belongs to the command in CMDLATCH (R38), BUS_ACTIVE is what H says
(R22), bus commands passed RequireConfigured (R70), an open transaction has an active bus (R23), SEQ_STATE
shows MEASURE's state (R28), RETRIES ≤ P_BUSY_RETRIES (R30), WR_IDX = COUNT before the window is full (R104),
misuse has set ERR (R25). -/
def Obligations.EveryStepKeepsTheBlockInvariant : Prop :=
  ∀ s t : State, s.Inv → step s = .next t → t.Inv

/-- In a state of the invariant no step faults: the two faults of the model are raised in no reachable state. -/
def Obligations.NoStepFaultsUnderTheInvariant : Prop :=
  ∀ (s : State) (f : Fault), s.Inv → step s ≠ .fault f

/-- R88: while the HOST uses only the engine's commands and P_ABORT_STOP = 1, no Sr is ever emitted and the bus is
idle whenever OpenSeq starts. -/
def Obligations.EngineOnlyHostSeesNoRepeatedStart : Prop :=
  ∀ s t : State, s.Inv → s.EngineInv → step s = .next t → t.EngineInv

/-- R131: with P_WAIT_BOUND ≥ 1 every command ends, whatever the bus answers: within 241 steps of the SEQUENCER
BUSY is 0 and RESULT is not NONE. -/
def Obligations.EveryCommandEndsWithABoundedWait : Prop :=
  ∀ s : State, s.Inv → s.params.waitBound ≠ 0 → s.busy = true → s.agenda = [] →
    ∃ k t, k ≤ s.stepsLeft ∧ s.stepsLeft ≤ 241 ∧ core.run k s = .next t ∧
      t.busy = false ∧ t.result ≠ .none

/-- R35: the slots no push has written cannot be observed: two states that differ only there read alike in every
register and step alike, and differ only there afterwards. -/
def Obligations.UnwrittenSlotsCannotBeObserved : Prop :=
  ∀ (i : Instr) (s s' t : State), s.Inv → sameButUnwritten s s' →
    (∀ r : Reg, s'.regValue r = s.regValue r) ∧
    (exec i s = .next t → ∃ t', exec i s' = .next t' ∧ sameButUnwritten t t')
end

