-- ==== Sys2Proof/Laws/State.lean ====
section
/-! SUPPORT. What each named operation makes of each field of the state: one lemma per field per update, so that
no later proof unfolds a record update. -/

namespace Sys2Proof.Machine

/-! ### `State.emit` -/

@[simp] theorem State.emit_params (e : BusEvent) (s : State) : (s.emit e).params = s.params := rfl
@[simp] theorem State.emit_cmdLatch (e : BusEvent) (s : State) : (s.emit e).cmdLatch = s.cmdLatch := rfl
@[simp] theorem State.emit_busy (e : BusEvent) (s : State) : (s.emit e).busy = s.busy := rfl
@[simp] theorem State.emit_configured (e : BusEvent) (s : State) : (s.emit e).configured = s.configured := rfl
@[simp] theorem State.emit_busActive (e : BusEvent) (s : State) : (s.emit e).busActive = e.busActiveAfter s.busActive := rfl
@[simp] theorem State.emit_txnOpen (e : BusEvent) (s : State) : (s.emit e).txnOpen = s.txnOpen := rfl
@[simp] theorem State.emit_txnDir (e : BusEvent) (s : State) : (s.emit e).txnDir = s.txnDir := rfl
@[simp] theorem State.emit_decValid (e : BusEvent) (s : State) : (s.emit e).decValid = s.decValid := rfl
@[simp] theorem State.emit_err (e : BusEvent) (s : State) : (s.emit e).err = s.err := rfl
@[simp] theorem State.emit_overrun (e : BusEvent) (s : State) : (s.emit e).overrun = s.overrun := rfl
@[simp] theorem State.emit_result (e : BusEvent) (s : State) : (s.emit e).result = s.result := rfl
@[simp] theorem State.emit_seqState (e : BusEvent) (s : State) : (s.emit e).seqState = s.seqState := rfl
@[simp] theorem State.emit_lastBusStatus (e : BusEvent) (s : State) : (s.emit e).lastBusStatus = s.lastBusStatus := rfl
@[simp] theorem State.emit_retries (e : BusEvent) (s : State) : (s.emit e).retries = s.retries := rfl
@[simp] theorem State.emit_busDiv (e : BusEvent) (s : State) : (s.emit e).busDiv = s.busDiv := rfl
@[simp] theorem State.emit_buf (e : BusEvent) (s : State) : (s.emit e).buf = s.buf := rfl
@[simp] theorem State.emit_rawH (e : BusEvent) (s : State) : (s.emit e).rawH = s.rawH := rfl
@[simp] theorem State.emit_rawT (e : BusEvent) (s : State) : (s.emit e).rawT = s.rawT := rfl
@[simp] theorem State.emit_winH (e : BusEvent) (s : State) : (s.emit e).winH = s.winH := rfl
@[simp] theorem State.emit_winT (e : BusEvent) (s : State) : (s.emit e).winT = s.winT := rfl
@[simp] theorem State.emit_wrIdx (e : BusEvent) (s : State) : (s.emit e).wrIdx = s.wrIdx := rfl
@[simp] theorem State.emit_count (e : BusEvent) (s : State) : (s.emit e).count = s.count := rfl
@[simp] theorem State.emit_pos (e : BusEvent) (s : State) : (s.emit e).pos = s.pos := rfl
@[simp] theorem State.emit_history (e : BusEvent) (s : State) : (s.emit e).history = s.history ++ [e] := rfl
@[simp] theorem State.emit_answers (e : BusEvent) (s : State) : (s.emit e).answers = s.answers := rfl
@[simp] theorem State.emit_agenda (e : BusEvent) (s : State) : (s.emit e).agenda = s.agenda := rfl
@[simp] theorem State.emit_draws (e : BusEvent) (s : State) : (s.emit e).draws = s.draws := rfl
@[simp] theorem State.emit_hostReads (e : BusEvent) (s : State) : (s.emit e).hostReads = s.hostReads := rfl

/-! ### `State.goto` -/

@[simp] theorem State.goto_params (p : SeqPos) (s : State) : (s.goto p).params = s.params := rfl
@[simp] theorem State.goto_cmdLatch (p : SeqPos) (s : State) : (s.goto p).cmdLatch = s.cmdLatch := rfl
@[simp] theorem State.goto_busy (p : SeqPos) (s : State) : (s.goto p).busy = s.busy := rfl
@[simp] theorem State.goto_configured (p : SeqPos) (s : State) : (s.goto p).configured = s.configured := rfl
@[simp] theorem State.goto_busActive (p : SeqPos) (s : State) : (s.goto p).busActive = s.busActive := rfl
@[simp] theorem State.goto_txnOpen (p : SeqPos) (s : State) : (s.goto p).txnOpen = s.txnOpen := rfl
@[simp] theorem State.goto_txnDir (p : SeqPos) (s : State) : (s.goto p).txnDir = s.txnDir := rfl
@[simp] theorem State.goto_decValid (p : SeqPos) (s : State) : (s.goto p).decValid = s.decValid := rfl
@[simp] theorem State.goto_err (p : SeqPos) (s : State) : (s.goto p).err = s.err := rfl
@[simp] theorem State.goto_overrun (p : SeqPos) (s : State) : (s.goto p).overrun = s.overrun := rfl
@[simp] theorem State.goto_result (p : SeqPos) (s : State) : (s.goto p).result = s.result := rfl
@[simp] theorem State.goto_seqState (p : SeqPos) (s : State) : (s.goto p).seqState = s.seqState := rfl
@[simp] theorem State.goto_lastBusStatus (p : SeqPos) (s : State) : (s.goto p).lastBusStatus = s.lastBusStatus := rfl
@[simp] theorem State.goto_retries (p : SeqPos) (s : State) : (s.goto p).retries = s.retries := rfl
@[simp] theorem State.goto_busDiv (p : SeqPos) (s : State) : (s.goto p).busDiv = s.busDiv := rfl
@[simp] theorem State.goto_buf (p : SeqPos) (s : State) : (s.goto p).buf = s.buf := rfl
@[simp] theorem State.goto_rawH (p : SeqPos) (s : State) : (s.goto p).rawH = s.rawH := rfl
@[simp] theorem State.goto_rawT (p : SeqPos) (s : State) : (s.goto p).rawT = s.rawT := rfl
@[simp] theorem State.goto_winH (p : SeqPos) (s : State) : (s.goto p).winH = s.winH := rfl
@[simp] theorem State.goto_winT (p : SeqPos) (s : State) : (s.goto p).winT = s.winT := rfl
@[simp] theorem State.goto_wrIdx (p : SeqPos) (s : State) : (s.goto p).wrIdx = s.wrIdx := rfl
@[simp] theorem State.goto_count (p : SeqPos) (s : State) : (s.goto p).count = s.count := rfl
@[simp] theorem State.goto_pos (p : SeqPos) (s : State) : (s.goto p).pos = p := rfl
@[simp] theorem State.goto_history (p : SeqPos) (s : State) : (s.goto p).history = s.history := rfl
@[simp] theorem State.goto_answers (p : SeqPos) (s : State) : (s.goto p).answers = s.answers := rfl
@[simp] theorem State.goto_agenda (p : SeqPos) (s : State) : (s.goto p).agenda = s.agenda := rfl
@[simp] theorem State.goto_draws (p : SeqPos) (s : State) : (s.goto p).draws = s.draws := rfl
@[simp] theorem State.goto_hostReads (p : SeqPos) (s : State) : (s.goto p).hostReads = s.hostReads := rfl

/-! ### `State.stop` -/

@[simp] theorem State.stop_params (s : State) : (s.stop).params = s.params := rfl
@[simp] theorem State.stop_cmdLatch (s : State) : (s.stop).cmdLatch = s.cmdLatch := rfl
@[simp] theorem State.stop_busy (s : State) : (s.stop).busy = s.busy := rfl
@[simp] theorem State.stop_configured (s : State) : (s.stop).configured = s.configured := rfl
@[simp] theorem State.stop_busActive (s : State) : (s.stop).busActive = false := rfl
@[simp] theorem State.stop_txnOpen (s : State) : (s.stop).txnOpen = false := rfl
@[simp] theorem State.stop_txnDir (s : State) : (s.stop).txnDir = s.txnDir := rfl
@[simp] theorem State.stop_decValid (s : State) : (s.stop).decValid = s.decValid := rfl
@[simp] theorem State.stop_err (s : State) : (s.stop).err = s.err := rfl
@[simp] theorem State.stop_overrun (s : State) : (s.stop).overrun = s.overrun := rfl
@[simp] theorem State.stop_result (s : State) : (s.stop).result = s.result := rfl
@[simp] theorem State.stop_seqState (s : State) : (s.stop).seqState = s.seqState := rfl
@[simp] theorem State.stop_lastBusStatus (s : State) : (s.stop).lastBusStatus = s.lastBusStatus := rfl
@[simp] theorem State.stop_retries (s : State) : (s.stop).retries = s.retries := rfl
@[simp] theorem State.stop_busDiv (s : State) : (s.stop).busDiv = s.busDiv := rfl
@[simp] theorem State.stop_buf (s : State) : (s.stop).buf = s.buf := rfl
@[simp] theorem State.stop_rawH (s : State) : (s.stop).rawH = s.rawH := rfl
@[simp] theorem State.stop_rawT (s : State) : (s.stop).rawT = s.rawT := rfl
@[simp] theorem State.stop_winH (s : State) : (s.stop).winH = s.winH := rfl
@[simp] theorem State.stop_winT (s : State) : (s.stop).winT = s.winT := rfl
@[simp] theorem State.stop_wrIdx (s : State) : (s.stop).wrIdx = s.wrIdx := rfl
@[simp] theorem State.stop_count (s : State) : (s.stop).count = s.count := rfl
@[simp] theorem State.stop_pos (s : State) : (s.stop).pos = s.pos := rfl
@[simp] theorem State.stop_history (s : State) : (s.stop).history = s.history ++ [.stop] := rfl
@[simp] theorem State.stop_answers (s : State) : (s.stop).answers = s.answers := rfl
@[simp] theorem State.stop_agenda (s : State) : (s.stop).agenda = s.agenda := rfl
@[simp] theorem State.stop_draws (s : State) : (s.stop).draws = s.draws := rfl
@[simp] theorem State.stop_hostReads (s : State) : (s.stop).hostReads = s.hostReads := rfl

/-! ### `State.settle` -/

@[simp] theorem State.settle_params (s : State) : (s.settle).params = s.params := rfl
@[simp] theorem State.settle_cmdLatch (s : State) : (s.settle).cmdLatch = s.cmdLatch := rfl
@[simp] theorem State.settle_busy (s : State) : (s.settle).busy = s.busy := rfl
@[simp] theorem State.settle_configured (s : State) : (s.settle).configured = s.configured := rfl
@[simp] theorem State.settle_busActive (s : State) : (s.settle).busActive = s.busActive := rfl
@[simp] theorem State.settle_txnOpen (s : State) : (s.settle).txnOpen = s.txnOpen := rfl
@[simp] theorem State.settle_txnDir (s : State) : (s.settle).txnDir = s.txnDir := rfl
@[simp] theorem State.settle_decValid (s : State) : (s.settle).decValid = s.decValid := rfl
@[simp] theorem State.settle_err (s : State) : (s.settle).err = s.err := rfl
@[simp] theorem State.settle_overrun (s : State) : (s.settle).overrun = s.overrun := rfl
@[simp] theorem State.settle_result (s : State) : (s.settle).result = s.result := rfl
@[simp] theorem State.settle_seqState (s : State) : (s.settle).seqState = s.seqState := rfl
@[simp] theorem State.settle_lastBusStatus (s : State) : (s.settle).lastBusStatus = s.lastBusStatus := rfl
@[simp] theorem State.settle_retries (s : State) : (s.settle).retries = s.retries := rfl
@[simp] theorem State.settle_busDiv (s : State) : (s.settle).busDiv = s.busDiv := rfl
@[simp] theorem State.settle_buf (s : State) : (s.settle).buf = s.buf := rfl
@[simp] theorem State.settle_rawH (s : State) : (s.settle).rawH = s.rawH := rfl
@[simp] theorem State.settle_rawT (s : State) : (s.settle).rawT = s.rawT := rfl
@[simp] theorem State.settle_winH (s : State) : (s.settle).winH = s.winH := rfl
@[simp] theorem State.settle_winT (s : State) : (s.settle).winT = s.winT := rfl
@[simp] theorem State.settle_wrIdx (s : State) : (s.settle).wrIdx = s.wrIdx := rfl
@[simp] theorem State.settle_count (s : State) : (s.settle).count = s.count := rfl
@[simp] theorem State.settle_pos (s : State) : (s.settle).pos = s.pos := rfl
@[simp] theorem State.settle_history (s : State) : (s.settle).history = s.history ++ [.settle] := rfl
@[simp] theorem State.settle_answers (s : State) : (s.settle).answers = s.answers := rfl
@[simp] theorem State.settle_agenda (s : State) : (s.settle).agenda = s.agenda := rfl
@[simp] theorem State.settle_draws (s : State) : (s.settle).draws = s.draws := rfl
@[simp] theorem State.settle_hostReads (s : State) : (s.settle).hostReads = s.hostReads := rfl

/-! ### `State.finish` -/

@[simp] theorem State.finish_params (r : Result) (s : State) : (s.finish r).params = s.params := rfl
@[simp] theorem State.finish_cmdLatch (r : Result) (s : State) : (s.finish r).cmdLatch = s.cmdLatch := rfl
@[simp] theorem State.finish_busy (r : Result) (s : State) : (s.finish r).busy = false := rfl
@[simp] theorem State.finish_configured (r : Result) (s : State) : (s.finish r).configured = s.configured := rfl
@[simp] theorem State.finish_busActive (r : Result) (s : State) : (s.finish r).busActive = s.busActive := rfl
@[simp] theorem State.finish_txnOpen (r : Result) (s : State) : (s.finish r).txnOpen = s.txnOpen := rfl
@[simp] theorem State.finish_txnDir (r : Result) (s : State) : (s.finish r).txnDir = s.txnDir := rfl
@[simp] theorem State.finish_decValid (r : Result) (s : State) : (s.finish r).decValid = s.decValid := rfl
@[simp] theorem State.finish_err (r : Result) (s : State) : (s.finish r).err = (s.err || r.setsErr) := rfl
@[simp] theorem State.finish_overrun (r : Result) (s : State) : (s.finish r).overrun = s.overrun := rfl
@[simp] theorem State.finish_result (r : Result) (s : State) : (s.finish r).result = r := rfl
@[simp] theorem State.finish_seqState (r : Result) (s : State) : (s.finish r).seqState = s.seqState := rfl
@[simp] theorem State.finish_lastBusStatus (r : Result) (s : State) : (s.finish r).lastBusStatus = s.lastBusStatus := rfl
@[simp] theorem State.finish_retries (r : Result) (s : State) : (s.finish r).retries = s.retries := rfl
@[simp] theorem State.finish_busDiv (r : Result) (s : State) : (s.finish r).busDiv = s.busDiv := rfl
@[simp] theorem State.finish_buf (r : Result) (s : State) : (s.finish r).buf = s.buf := rfl
@[simp] theorem State.finish_rawH (r : Result) (s : State) : (s.finish r).rawH = s.rawH := rfl
@[simp] theorem State.finish_rawT (r : Result) (s : State) : (s.finish r).rawT = s.rawT := rfl
@[simp] theorem State.finish_winH (r : Result) (s : State) : (s.finish r).winH = s.winH := rfl
@[simp] theorem State.finish_winT (r : Result) (s : State) : (s.finish r).winT = s.winT := rfl
@[simp] theorem State.finish_wrIdx (r : Result) (s : State) : (s.finish r).wrIdx = s.wrIdx := rfl
@[simp] theorem State.finish_count (r : Result) (s : State) : (s.finish r).count = s.count := rfl
@[simp] theorem State.finish_pos (r : Result) (s : State) : (s.finish r).pos = .first := rfl
@[simp] theorem State.finish_history (r : Result) (s : State) : (s.finish r).history = s.history := rfl
@[simp] theorem State.finish_answers (r : Result) (s : State) : (s.finish r).answers = s.answers := rfl
@[simp] theorem State.finish_agenda (r : Result) (s : State) : (s.finish r).agenda = s.agenda := rfl
@[simp] theorem State.finish_draws (r : Result) (s : State) : (s.finish r).draws = s.draws := rfl
@[simp] theorem State.finish_hostReads (r : Result) (s : State) : (s.finish r).hostReads = s.hostReads := rfl

/-! ### `State.decodeFrame` -/

@[simp] theorem State.decodeFrame_params (s : State) : (s.decodeFrame).params = s.params := rfl
@[simp] theorem State.decodeFrame_cmdLatch (s : State) : (s.decodeFrame).cmdLatch = s.cmdLatch := rfl
@[simp] theorem State.decodeFrame_busy (s : State) : (s.decodeFrame).busy = s.busy := rfl
@[simp] theorem State.decodeFrame_configured (s : State) : (s.decodeFrame).configured = s.configured := rfl
@[simp] theorem State.decodeFrame_busActive (s : State) : (s.decodeFrame).busActive = s.busActive := rfl
@[simp] theorem State.decodeFrame_txnOpen (s : State) : (s.decodeFrame).txnOpen = s.txnOpen := rfl
@[simp] theorem State.decodeFrame_txnDir (s : State) : (s.decodeFrame).txnDir = s.txnDir := rfl
@[simp] theorem State.decodeFrame_decValid (s : State) : (s.decodeFrame).decValid = true := rfl
@[simp] theorem State.decodeFrame_err (s : State) : (s.decodeFrame).err = s.err := rfl
@[simp] theorem State.decodeFrame_overrun (s : State) : (s.decodeFrame).overrun = s.overrun := rfl
@[simp] theorem State.decodeFrame_result (s : State) : (s.decodeFrame).result = s.result := rfl
@[simp] theorem State.decodeFrame_seqState (s : State) : (s.decodeFrame).seqState = s.seqState := rfl
@[simp] theorem State.decodeFrame_lastBusStatus (s : State) : (s.decodeFrame).lastBusStatus = s.lastBusStatus := rfl
@[simp] theorem State.decodeFrame_retries (s : State) : (s.decodeFrame).retries = s.retries := rfl
@[simp] theorem State.decodeFrame_busDiv (s : State) : (s.decodeFrame).busDiv = s.busDiv := rfl
@[simp] theorem State.decodeFrame_buf (s : State) : (s.decodeFrame).buf = s.buf := rfl
@[simp] theorem State.decodeFrame_rawH (s : State) : (s.decodeFrame).rawH = s.frameH := rfl
@[simp] theorem State.decodeFrame_rawT (s : State) : (s.decodeFrame).rawT = s.frameT := rfl
@[simp] theorem State.decodeFrame_winH (s : State) : (s.decodeFrame).winH = s.winH := rfl
@[simp] theorem State.decodeFrame_winT (s : State) : (s.decodeFrame).winT = s.winT := rfl
@[simp] theorem State.decodeFrame_wrIdx (s : State) : (s.decodeFrame).wrIdx = s.wrIdx := rfl
@[simp] theorem State.decodeFrame_count (s : State) : (s.decodeFrame).count = s.count := rfl
@[simp] theorem State.decodeFrame_pos (s : State) : (s.decodeFrame).pos = s.pos := rfl
@[simp] theorem State.decodeFrame_history (s : State) : (s.decodeFrame).history = s.history := rfl
@[simp] theorem State.decodeFrame_answers (s : State) : (s.decodeFrame).answers = s.answers := rfl
@[simp] theorem State.decodeFrame_agenda (s : State) : (s.decodeFrame).agenda = s.agenda := rfl
@[simp] theorem State.decodeFrame_draws (s : State) : (s.decodeFrame).draws = s.draws := rfl
@[simp] theorem State.decodeFrame_hostReads (s : State) : (s.decodeFrame).hostReads = s.hostReads := rfl

/-! ### `State.push` -/

@[simp] theorem State.push_params (h t : Field) (s : State) : (s.push h t).params = s.params := rfl
@[simp] theorem State.push_cmdLatch (h t : Field) (s : State) : (s.push h t).cmdLatch = s.cmdLatch := rfl
@[simp] theorem State.push_busy (h t : Field) (s : State) : (s.push h t).busy = s.busy := rfl
@[simp] theorem State.push_configured (h t : Field) (s : State) : (s.push h t).configured = s.configured := rfl
@[simp] theorem State.push_busActive (h t : Field) (s : State) : (s.push h t).busActive = s.busActive := rfl
@[simp] theorem State.push_txnOpen (h t : Field) (s : State) : (s.push h t).txnOpen = s.txnOpen := rfl
@[simp] theorem State.push_txnDir (h t : Field) (s : State) : (s.push h t).txnDir = s.txnDir := rfl
@[simp] theorem State.push_decValid (h t : Field) (s : State) : (s.push h t).decValid = s.decValid := rfl
@[simp] theorem State.push_err (h t : Field) (s : State) : (s.push h t).err = s.err := rfl
@[simp] theorem State.push_overrun (h t : Field) (s : State) : (s.push h t).overrun = s.overrun := rfl
@[simp] theorem State.push_result (h t : Field) (s : State) : (s.push h t).result = s.result := rfl
@[simp] theorem State.push_seqState (h t : Field) (s : State) : (s.push h t).seqState = s.seqState := rfl
@[simp] theorem State.push_lastBusStatus (h t : Field) (s : State) : (s.push h t).lastBusStatus = s.lastBusStatus := rfl
@[simp] theorem State.push_retries (h t : Field) (s : State) : (s.push h t).retries = s.retries := rfl
@[simp] theorem State.push_busDiv (h t : Field) (s : State) : (s.push h t).busDiv = s.busDiv := rfl
@[simp] theorem State.push_buf (h t : Field) (s : State) : (s.push h t).buf = s.buf := rfl
@[simp] theorem State.push_rawH (h t : Field) (s : State) : (s.push h t).rawH = s.rawH := rfl
@[simp] theorem State.push_rawT (h t : Field) (s : State) : (s.push h t).rawT = s.rawT := rfl
@[simp] theorem State.push_winH (h t : Field) (s : State) : (s.push h t).winH = s.winH.set s.wrIdx h := rfl
@[simp] theorem State.push_winT (h t : Field) (s : State) : (s.push h t).winT = s.winT.set s.wrIdx t := rfl
@[simp] theorem State.push_wrIdx (h t : Field) (s : State) : (s.push h t).wrIdx = s.wrIdx + 1 := rfl
@[simp] theorem State.push_count (h t : Field) (s : State) : (s.push h t).count = BitVec.ofNat 2 (min (s.count.toNat + 1) 3) := rfl
@[simp] theorem State.push_pos (h t : Field) (s : State) : (s.push h t).pos = s.pos := rfl
@[simp] theorem State.push_history (h t : Field) (s : State) : (s.push h t).history = s.history := rfl
@[simp] theorem State.push_answers (h t : Field) (s : State) : (s.push h t).answers = s.answers := rfl
@[simp] theorem State.push_agenda (h t : Field) (s : State) : (s.push h t).agenda = s.agenda := rfl
@[simp] theorem State.push_draws (h t : Field) (s : State) : (s.push h t).draws = s.draws := rfl
@[simp] theorem State.push_hostReads (h t : Field) (s : State) : (s.push h t).hostReads = s.hostReads := rfl

/-! ### `State.startCommand` -/

@[simp] theorem State.startCommand_params (v : Word) (s : State) : (s.startCommand v).params = s.params := rfl
@[simp] theorem State.startCommand_cmdLatch (v : Word) (s : State) : (s.startCommand v).cmdLatch = v := rfl
@[simp] theorem State.startCommand_busy (v : Word) (s : State) : (s.startCommand v).busy = true := rfl
@[simp] theorem State.startCommand_configured (v : Word) (s : State) : (s.startCommand v).configured = s.configured := rfl
@[simp] theorem State.startCommand_busActive (v : Word) (s : State) : (s.startCommand v).busActive = s.busActive := rfl
@[simp] theorem State.startCommand_txnOpen (v : Word) (s : State) : (s.startCommand v).txnOpen = s.txnOpen := rfl
@[simp] theorem State.startCommand_txnDir (v : Word) (s : State) : (s.startCommand v).txnDir = s.txnDir := rfl
@[simp] theorem State.startCommand_decValid (v : Word) (s : State) : (s.startCommand v).decValid = s.decValid := rfl
@[simp] theorem State.startCommand_err (v : Word) (s : State) : (s.startCommand v).err = s.err := rfl
@[simp] theorem State.startCommand_overrun (v : Word) (s : State) : (s.startCommand v).overrun = s.overrun := rfl
@[simp] theorem State.startCommand_result (v : Word) (s : State) : (s.startCommand v).result = .none := rfl
@[simp] theorem State.startCommand_seqState (v : Word) (s : State) : (s.startCommand v).seqState = s.seqState := rfl
@[simp] theorem State.startCommand_lastBusStatus (v : Word) (s : State) : (s.startCommand v).lastBusStatus = s.lastBusStatus := rfl
@[simp] theorem State.startCommand_retries (v : Word) (s : State) : (s.startCommand v).retries = s.retries := rfl
@[simp] theorem State.startCommand_busDiv (v : Word) (s : State) : (s.startCommand v).busDiv = s.busDiv := rfl
@[simp] theorem State.startCommand_buf (v : Word) (s : State) : (s.startCommand v).buf = s.buf := rfl
@[simp] theorem State.startCommand_rawH (v : Word) (s : State) : (s.startCommand v).rawH = s.rawH := rfl
@[simp] theorem State.startCommand_rawT (v : Word) (s : State) : (s.startCommand v).rawT = s.rawT := rfl
@[simp] theorem State.startCommand_winH (v : Word) (s : State) : (s.startCommand v).winH = s.winH := rfl
@[simp] theorem State.startCommand_winT (v : Word) (s : State) : (s.startCommand v).winT = s.winT := rfl
@[simp] theorem State.startCommand_wrIdx (v : Word) (s : State) : (s.startCommand v).wrIdx = s.wrIdx := rfl
@[simp] theorem State.startCommand_count (v : Word) (s : State) : (s.startCommand v).count = s.count := rfl
@[simp] theorem State.startCommand_pos (v : Word) (s : State) : (s.startCommand v).pos = .first := rfl
@[simp] theorem State.startCommand_history (v : Word) (s : State) : (s.startCommand v).history = s.history := rfl
@[simp] theorem State.startCommand_answers (v : Word) (s : State) : (s.startCommand v).answers = s.answers := rfl
@[simp] theorem State.startCommand_agenda (v : Word) (s : State) : (s.startCommand v).agenda = s.agenda := rfl
@[simp] theorem State.startCommand_draws (v : Word) (s : State) : (s.startCommand v).draws = s.draws := rfl
@[simp] theorem State.startCommand_hostReads (v : Word) (s : State) : (s.startCommand v).hostReads = s.hostReads := rfl

/-! ### `State.droppedWrite` -/

@[simp] theorem State.droppedWrite_params (s : State) : (s.droppedWrite).params = s.params := rfl
@[simp] theorem State.droppedWrite_cmdLatch (s : State) : (s.droppedWrite).cmdLatch = s.cmdLatch := rfl
@[simp] theorem State.droppedWrite_busy (s : State) : (s.droppedWrite).busy = s.busy := rfl
@[simp] theorem State.droppedWrite_configured (s : State) : (s.droppedWrite).configured = s.configured := rfl
@[simp] theorem State.droppedWrite_busActive (s : State) : (s.droppedWrite).busActive = s.busActive := rfl
@[simp] theorem State.droppedWrite_txnOpen (s : State) : (s.droppedWrite).txnOpen = s.txnOpen := rfl
@[simp] theorem State.droppedWrite_txnDir (s : State) : (s.droppedWrite).txnDir = s.txnDir := rfl
@[simp] theorem State.droppedWrite_decValid (s : State) : (s.droppedWrite).decValid = s.decValid := rfl
@[simp] theorem State.droppedWrite_err (s : State) : (s.droppedWrite).err = s.err := rfl
@[simp] theorem State.droppedWrite_overrun (s : State) : (s.droppedWrite).overrun = true := rfl
@[simp] theorem State.droppedWrite_result (s : State) : (s.droppedWrite).result = s.result := rfl
@[simp] theorem State.droppedWrite_seqState (s : State) : (s.droppedWrite).seqState = s.seqState := rfl
@[simp] theorem State.droppedWrite_lastBusStatus (s : State) : (s.droppedWrite).lastBusStatus = s.lastBusStatus := rfl
@[simp] theorem State.droppedWrite_retries (s : State) : (s.droppedWrite).retries = s.retries := rfl
@[simp] theorem State.droppedWrite_busDiv (s : State) : (s.droppedWrite).busDiv = s.busDiv := rfl
@[simp] theorem State.droppedWrite_buf (s : State) : (s.droppedWrite).buf = s.buf := rfl
@[simp] theorem State.droppedWrite_rawH (s : State) : (s.droppedWrite).rawH = s.rawH := rfl
@[simp] theorem State.droppedWrite_rawT (s : State) : (s.droppedWrite).rawT = s.rawT := rfl
@[simp] theorem State.droppedWrite_winH (s : State) : (s.droppedWrite).winH = s.winH := rfl
@[simp] theorem State.droppedWrite_winT (s : State) : (s.droppedWrite).winT = s.winT := rfl
@[simp] theorem State.droppedWrite_wrIdx (s : State) : (s.droppedWrite).wrIdx = s.wrIdx := rfl
@[simp] theorem State.droppedWrite_count (s : State) : (s.droppedWrite).count = s.count := rfl
@[simp] theorem State.droppedWrite_pos (s : State) : (s.droppedWrite).pos = s.pos := rfl
@[simp] theorem State.droppedWrite_history (s : State) : (s.droppedWrite).history = s.history := rfl
@[simp] theorem State.droppedWrite_answers (s : State) : (s.droppedWrite).answers = s.answers := rfl
@[simp] theorem State.droppedWrite_agenda (s : State) : (s.droppedWrite).agenda = s.agenda := rfl
@[simp] theorem State.droppedWrite_draws (s : State) : (s.droppedWrite).draws = s.draws := rfl
@[simp] theorem State.droppedWrite_hostReads (s : State) : (s.droppedWrite).hostReads = s.hostReads := rfl

/-! ### `State.fail` -/

theorem State.fail_of_abortStop {s : State} (h : s.params.abortStop = true) : s.fail = s.stop := by
  simp [State.fail, h]

theorem State.fail_of_no_abortStop {s : State} (h : s.params.abortStop = false) :
    s.fail = { s with txnOpen := false } := by
  simp [State.fail, h]

@[simp] theorem State.fail_params (s : State) : s.fail.params = s.params := by
  unfold State.fail; split <;> rfl
@[simp] theorem State.fail_cmdLatch (s : State) : s.fail.cmdLatch = s.cmdLatch := by
  unfold State.fail; split <;> rfl
@[simp] theorem State.fail_busy (s : State) : s.fail.busy = s.busy := by
  unfold State.fail; split <;> rfl
@[simp] theorem State.fail_configured (s : State) : s.fail.configured = s.configured := by
  unfold State.fail; split <;> rfl
@[simp] theorem State.fail_txnOpen (s : State) : s.fail.txnOpen = false := by
  unfold State.fail; split <;> rfl
@[simp] theorem State.fail_txnDir (s : State) : s.fail.txnDir = s.txnDir := by
  unfold State.fail; split <;> rfl
@[simp] theorem State.fail_decValid (s : State) : s.fail.decValid = s.decValid := by
  unfold State.fail; split <;> rfl
@[simp] theorem State.fail_err (s : State) : s.fail.err = s.err := by
  unfold State.fail; split <;> rfl
@[simp] theorem State.fail_overrun (s : State) : s.fail.overrun = s.overrun := by
  unfold State.fail; split <;> rfl
@[simp] theorem State.fail_result (s : State) : s.fail.result = s.result := by
  unfold State.fail; split <;> rfl
@[simp] theorem State.fail_seqState (s : State) : s.fail.seqState = s.seqState := by
  unfold State.fail; split <;> rfl
@[simp] theorem State.fail_lastBusStatus (s : State) : s.fail.lastBusStatus = s.lastBusStatus := by
  unfold State.fail; split <;> rfl
@[simp] theorem State.fail_retries (s : State) : s.fail.retries = s.retries := by
  unfold State.fail; split <;> rfl
@[simp] theorem State.fail_busDiv (s : State) : s.fail.busDiv = s.busDiv := by
  unfold State.fail; split <;> rfl
@[simp] theorem State.fail_buf (s : State) : s.fail.buf = s.buf := by
  unfold State.fail; split <;> rfl
@[simp] theorem State.fail_rawH (s : State) : s.fail.rawH = s.rawH := by
  unfold State.fail; split <;> rfl
@[simp] theorem State.fail_rawT (s : State) : s.fail.rawT = s.rawT := by
  unfold State.fail; split <;> rfl
@[simp] theorem State.fail_winH (s : State) : s.fail.winH = s.winH := by
  unfold State.fail; split <;> rfl
@[simp] theorem State.fail_winT (s : State) : s.fail.winT = s.winT := by
  unfold State.fail; split <;> rfl
@[simp] theorem State.fail_wrIdx (s : State) : s.fail.wrIdx = s.wrIdx := by
  unfold State.fail; split <;> rfl
@[simp] theorem State.fail_count (s : State) : s.fail.count = s.count := by
  unfold State.fail; split <;> rfl
@[simp] theorem State.fail_pos (s : State) : s.fail.pos = s.pos := by
  unfold State.fail; split <;> rfl
@[simp] theorem State.fail_answers (s : State) : s.fail.answers = s.answers := by
  unfold State.fail; split <;> rfl
@[simp] theorem State.fail_agenda (s : State) : s.fail.agenda = s.agenda := by
  unfold State.fail; split <;> rfl
@[simp] theorem State.fail_draws (s : State) : s.fail.draws = s.draws := by
  unfold State.fail; split <;> rfl
@[simp] theorem State.fail_hostReads (s : State) : s.fail.hostReads = s.hostReads := by
  unfold State.fail; split <;> rfl

theorem State.fail_history (s : State) :
    s.fail.history = s.history ++ (if s.params.abortStop then [.stop] else []) := by
  unfold State.fail; split <;> simp

theorem State.fail_busActive (s : State) :
    s.fail.busActive = (!s.params.abortStop && s.busActive) := by
  unfold State.fail; split <;> simp_all

/-! ### The answer of the bus -/

@[simp] theorem State.nextAnswer_params (s : State) : s.nextAnswer.2.params = s.params := by
  unfold State.nextAnswer; split <;> rfl
@[simp] theorem State.nextAnswer_cmdLatch (s : State) : s.nextAnswer.2.cmdLatch = s.cmdLatch := by
  unfold State.nextAnswer; split <;> rfl
@[simp] theorem State.nextAnswer_busy (s : State) : s.nextAnswer.2.busy = s.busy := by
  unfold State.nextAnswer; split <;> rfl
@[simp] theorem State.nextAnswer_configured (s : State) : s.nextAnswer.2.configured = s.configured := by
  unfold State.nextAnswer; split <;> rfl
@[simp] theorem State.nextAnswer_busActive (s : State) : s.nextAnswer.2.busActive = s.busActive := by
  unfold State.nextAnswer; split <;> rfl
@[simp] theorem State.nextAnswer_txnOpen (s : State) : s.nextAnswer.2.txnOpen = s.txnOpen := by
  unfold State.nextAnswer; split <;> rfl
@[simp] theorem State.nextAnswer_txnDir (s : State) : s.nextAnswer.2.txnDir = s.txnDir := by
  unfold State.nextAnswer; split <;> rfl
@[simp] theorem State.nextAnswer_decValid (s : State) : s.nextAnswer.2.decValid = s.decValid := by
  unfold State.nextAnswer; split <;> rfl
@[simp] theorem State.nextAnswer_err (s : State) : s.nextAnswer.2.err = s.err := by
  unfold State.nextAnswer; split <;> rfl
@[simp] theorem State.nextAnswer_overrun (s : State) : s.nextAnswer.2.overrun = s.overrun := by
  unfold State.nextAnswer; split <;> rfl
@[simp] theorem State.nextAnswer_result (s : State) : s.nextAnswer.2.result = s.result := by
  unfold State.nextAnswer; split <;> rfl
@[simp] theorem State.nextAnswer_seqState (s : State) : s.nextAnswer.2.seqState = s.seqState := by
  unfold State.nextAnswer; split <;> rfl
@[simp] theorem State.nextAnswer_lastBusStatus (s : State) : s.nextAnswer.2.lastBusStatus = s.lastBusStatus := by
  unfold State.nextAnswer; split <;> rfl
@[simp] theorem State.nextAnswer_retries (s : State) : s.nextAnswer.2.retries = s.retries := by
  unfold State.nextAnswer; split <;> rfl
@[simp] theorem State.nextAnswer_busDiv (s : State) : s.nextAnswer.2.busDiv = s.busDiv := by
  unfold State.nextAnswer; split <;> rfl
@[simp] theorem State.nextAnswer_buf (s : State) : s.nextAnswer.2.buf = s.buf := by
  unfold State.nextAnswer; split <;> rfl
@[simp] theorem State.nextAnswer_rawH (s : State) : s.nextAnswer.2.rawH = s.rawH := by
  unfold State.nextAnswer; split <;> rfl
@[simp] theorem State.nextAnswer_rawT (s : State) : s.nextAnswer.2.rawT = s.rawT := by
  unfold State.nextAnswer; split <;> rfl
@[simp] theorem State.nextAnswer_winH (s : State) : s.nextAnswer.2.winH = s.winH := by
  unfold State.nextAnswer; split <;> rfl
@[simp] theorem State.nextAnswer_winT (s : State) : s.nextAnswer.2.winT = s.winT := by
  unfold State.nextAnswer; split <;> rfl
@[simp] theorem State.nextAnswer_wrIdx (s : State) : s.nextAnswer.2.wrIdx = s.wrIdx := by
  unfold State.nextAnswer; split <;> rfl
@[simp] theorem State.nextAnswer_count (s : State) : s.nextAnswer.2.count = s.count := by
  unfold State.nextAnswer; split <;> rfl
@[simp] theorem State.nextAnswer_pos (s : State) : s.nextAnswer.2.pos = s.pos := by
  unfold State.nextAnswer; split <;> rfl
@[simp] theorem State.nextAnswer_history (s : State) : s.nextAnswer.2.history = s.history := by
  unfold State.nextAnswer; split <;> rfl
@[simp] theorem State.nextAnswer_agenda (s : State) : s.nextAnswer.2.agenda = s.agenda := by
  unfold State.nextAnswer; split <;> rfl
@[simp] theorem State.nextAnswer_hostReads (s : State) : s.nextAnswer.2.hostReads = s.hostReads := by
  unfold State.nextAnswer; split <;> rfl

/-- The listed answer is taken first. -/
theorem State.nextAnswer_of_cons {s : State} {a : BusAnswer} {rest : List BusAnswer}
    (h : s.answers = a :: rest) : s.nextAnswer = (a, { s with answers := rest }) := by
  simp [State.nextAnswer, h]

/-- Taking an answer changes only the answers to come and the count of draws. -/
theorem State.nextAnswer_snd (s : State) :
    s.nextAnswer.2 = { s with answers := s.nextAnswer.2.answers, draws := s.nextAnswer.2.draws } := by
  unfold State.nextAnswer; split <;> rfl

end Sys2Proof.Machine
end

