-- ==== Sys2Proof/Laws/Ops.lean ====
section
/-! SUPPORT. Once per shared operation, everything it can do: the bus wait, the steps of the Transaction Engine's
procedures, the finish of a command. A proof cites these instead of unfolding the operation. -/

namespace Sys2Proof.Machine

variable {s t : State} {e : BusEvent} {ok : State → State} {err : Result → State → State}

/-- The state after event `e` was emitted and an answer was taken, `as` and `n` the answers and draws left. -/
def State.afterEvent (s : State) (e : BusEvent) (as : List BusAnswer) (n : Nat) : State :=
  { s with
    answers := as, draws := n
    history := s.history ++ [e], busActive := e.busActiveAfter s.busActive }

theorem State.emit_nextAnswer (s : State) (e : BusEvent) :
    s.nextAnswer.2.emit e = s.afterEvent e s.nextAnswer.2.answers s.nextAnswer.2.draws := by
  rw [State.nextAnswer_snd s]; rfl

/-- A bus wait that ends: with a status, or with a timeout where the waits are bounded (R52). -/
theorem State.waited_cases {onDone : Byte → Byte → State → State} {onTimeout : State → State}
    (h : s.waited e onDone onTimeout = some t) :
    ∃ as n, (∃ st d, t = onDone st d { s.afterEvent e as n with lastBusStatus := st }) ∨
      (s.params.waitBound ≠ 0 ∧ t = onTimeout (s.afterEvent e as n)) := by
  refine ⟨s.nextAnswer.2.answers, s.nextAnswer.2.draws, ?_⟩
  have hu := State.emit_nextAnswer s e
  unfold State.waited at h
  split at h
  next st d u hn =>
    rw [hn] at hu ⊢
    exact .inl ⟨st, d, by simpa [← hu] using h.symm⟩
  next u hn =>
    rw [hn] at hu ⊢
    split at h
    · cases h
    · exact .inr ⟨‹_›, by simpa [← hu] using h.symm⟩

/-- A bus wait answered `Done(st, d)`. -/
theorem State.waited_done {onDone : Byte → Byte → State → State} {onTimeout : State → State}
    {st d : Byte} (h : s.nextAnswer = (.done st d, t)) :
    s.waited e onDone onTimeout = some (onDone st d { t.emit e with lastBusStatus := st }) := by
  simp [State.waited, h]

/-- A bus wait that times out (R118). -/
theorem State.waited_timeout {onDone : Byte → Byte → State → State} {onTimeout : State → State}
    (h : s.nextAnswer = (.silent, t)) (hb : s.params.waitBound ≠ 0) :
    s.waited e onDone onTimeout = some (onTimeout (t.emit e)) := by
  simp [State.waited, h, hb]

/-- A bus wait that does not end at this draw (R53). -/
theorem State.waited_hangs {onDone : Byte → Byte → State → State} {onTimeout : State → State}
    (h : s.nextAnswer.1 = .silent) (hb : s.params.waitBound = 0) :
    s.waited e onDone onTimeout = none := by
  unfold State.waited
  split <;> simp_all

/-- With bounded waits every bus wait ends (R53). -/
theorem State.waited_isSome {onDone : Byte → Byte → State → State} {onTimeout : State → State}
    (hb : s.params.waitBound ≠ 0) : ∃ t, s.waited e onDone onTimeout = some t := by
  unfold State.waited
  split
  · exact ⟨_, rfl⟩
  · rw [if_neg hb]; exact ⟨_, rfl⟩

/-- The step of a bus wait, or no step (R53). -/
theorem State.stepOr_cases {o : Option State} (h : s.stepOr o = .next t) :
    o = some t ∨ (o = none ∧ t = s.nextAnswer.2) := by
  unfold State.stepOr at h
  cases o with
  | none => exact .inr ⟨rfl, by simpa using h.symm⟩
  | some u => exact .inl (by simpa using h)

@[simp] theorem State.stepOr_some (u : State) : s.stepOr (some u) = .next u := rfl

@[simp] theorem State.stepOr_none : s.stepOr none = .next s.nextAnswer.2 := rfl

/-- A SEQUENCER step that waits for the bus always answers a next state. -/
theorem State.stepOr_next (s : State) (o : Option State) : ∃ t, s.stepOr o = .next t := ⟨_, rfl⟩

/-- A link command's wait (R72): OK with whatever status, or BUS_TIMEOUT. -/
theorem State.linkWait_cases {onDone : Byte → State → State} (h : s.linkWait e onDone = some t) :
    ∃ as n,
      (∃ st d, t = (onDone d { s.afterEvent e as n with lastBusStatus := st }).goto (.ending .ok)) ∨
      (s.params.waitBound ≠ 0 ∧ t = (s.afterEvent e as n).goto (.ending .busTimeout)) :=
  State.waited_cases h

/-- The START step of OpenSeq (R79). -/
theorem State.openStart_cases (h : s.openStart ok err = some t) :
    ∃ as n,
      (∃ st, st = s.startExpected ∧
        t = ok { s.afterEvent s.startEvent as n with lastBusStatus := st }) ∨
      (∃ st, st ≠ s.startExpected ∧ t = err .protocolFault
        (State.fail { s.afterEvent s.startEvent as n with lastBusStatus := st })) ∨
      (s.params.waitBound ≠ 0 ∧ t = err .busTimeout (s.afterEvent s.startEvent as n).fail) := by
  obtain ⟨as, n, ⟨st, d, rfl⟩ | ⟨hb, rfl⟩⟩ := State.waited_cases h
  · refine ⟨as, n, ?_⟩
    by_cases hst : st = s.startExpected
    · exact .inl ⟨st, hst, by simp [hst]⟩
    · exact .inr (.inl ⟨st, hst, by simp [hst]⟩)
  · exact ⟨as, n, .inr (.inr ⟨hb, rfl⟩)⟩

/-- The address phase of OpenSeq (R79). -/
theorem State.openAddress_cases {a7 : DeviceAddr} {d : Direction}
    (h : s.openAddress a7 d ok err = some t) :
    ∃ as n,
      (∃ st, st = addrAckCode s.params.st d ∧ t = ok
        { s.afterEvent (.tx (addressByte a7 d)) as n with
          lastBusStatus := st, txnOpen := true, txnDir := d }) ∨
      (∃ st, st ≠ addrAckCode s.params.st d ∧ st = addrNackCode s.params.st d ∧ t = err .addrNack
        (State.fail { s.afterEvent (.tx (addressByte a7 d)) as n with lastBusStatus := st })) ∨
      (∃ st, st ≠ addrAckCode s.params.st d ∧ st ≠ addrNackCode s.params.st d ∧
        t = err .protocolFault
          (State.fail { s.afterEvent (.tx (addressByte a7 d)) as n with lastBusStatus := st })) ∨
      (s.params.waitBound ≠ 0 ∧
        t = err .busTimeout (s.afterEvent (.tx (addressByte a7 d)) as n).fail) := by
  obtain ⟨as, n, ⟨st, x, rfl⟩ | ⟨hb, rfl⟩⟩ := State.waited_cases h
  · refine ⟨as, n, ?_⟩
    by_cases hst : st = addrAckCode s.params.st d
    · exact .inl ⟨st, hst, by simp [hst]⟩
    · by_cases hn : st = addrNackCode s.params.st d
      · exact .inr (.inl ⟨st, hst, hn, by simp only [if_neg hst, if_pos hn]⟩)
      · exact .inr (.inr (.inl ⟨st, hst, hn, by simp only [if_neg hst, if_neg hn]⟩))
  · exact ⟨as, n, .inr (.inr (.inr ⟨hb, rfl⟩))⟩

/-- One byte of WriteSeq (R80). -/
theorem State.writeByte_cases {b : Byte} (h : s.writeByte b ok err = some t) :
    ∃ as n,
      (∃ st, st = s.params.st.txdAck ∧
        t = ok { s.afterEvent (.tx b) as n with lastBusStatus := st }) ∨
      (∃ st, st ≠ s.params.st.txdAck ∧ t = err .protocolFault
        (State.fail { s.afterEvent (.tx b) as n with lastBusStatus := st })) ∨
      (s.params.waitBound ≠ 0 ∧ t = err .busTimeout (s.afterEvent (.tx b) as n).fail) := by
  obtain ⟨as, n, ⟨st, x, rfl⟩ | ⟨hb, rfl⟩⟩ := State.waited_cases h
  · refine ⟨as, n, ?_⟩
    by_cases hst : st = s.params.st.txdAck
    · exact .inl ⟨st, hst, by simp [hst]⟩
    · exact .inr (.inl ⟨st, hst, by simp [hst]⟩)
  · exact ⟨as, n, .inr (.inr ⟨hb, rfl⟩)⟩

/-- One byte of ReadSeq (R81): BUF[i] is written only when its status matched. -/
theorem State.readByte_cases {i : Fin 8} {ack : Bool} (h : s.readByte i ack ok err = some t) :
    ∃ as n,
      (∃ st d, st = s.rxExpected ack ∧ t = ok
        { s.afterEvent (.rx ack) as n with lastBusStatus := st, buf := s.buf.set i d }) ∨
      (∃ st, st ≠ s.rxExpected ack ∧ t = err .protocolFault
        (State.fail { s.afterEvent (.rx ack) as n with lastBusStatus := st })) ∨
      (s.params.waitBound ≠ 0 ∧ t = err .busTimeout (s.afterEvent (.rx ack) as n).fail) := by
  obtain ⟨as, n, ⟨st, x, rfl⟩ | ⟨hb, rfl⟩⟩ := State.waited_cases h
  · refine ⟨as, n, ?_⟩
    by_cases hst : st = s.rxExpected ack
    · exact .inl ⟨st, x, hst, by simp [hst, State.afterEvent]⟩
    · exact .inr (.inl ⟨st, hst, by simp [hst]⟩)
  · exact ⟨as, n, .inr (.inr ⟨hb, rfl⟩)⟩

/-- The Decoding state of MEASURE (R96): its three outcomes. -/
theorem State.measureDecode_cases (s : State) :
    (s.frameBusy = true ∧ s.retries < s.params.busyRetries ∧ s.measureDecode =
      { s with
        decValid := false, retries := s.retries + 1, seqState := .triggering, pos := .trigStart }) ∨
    (s.frameBusy = true ∧ ¬ s.retries < s.params.busyRetries ∧ s.measureDecode =
      { s with decValid := false, seqState := .invalid, pos := .ending .sensorBusy }) ∨
    (s.frameBusy = false ∧ s.measureDecode =
      { s.decodeFrame.push s.frameH s.frameT with seqState := .ready, pos := .ending .ok }) := by
  unfold State.measureDecode
  cases hb : s.frameBusy
  · exact .inr (.inr ⟨rfl, by simp [State.measureReady, State.goto]⟩)
  · by_cases hr : s.retries < s.params.busyRetries
    · exact .inl ⟨rfl, hr, by simp [hr, State.goto]⟩
    · exact .inr (.inl ⟨rfl, hr, by simp [hr, State.goto]⟩)

end Sys2Proof.Machine
end

