-- ==== Sys2Proof/Laws/PerInstr.lean ====
section
/-! SUPPORT. A statement for every command, said per constructor: the word of a well-formed command selects the
row of the opcode map that its mnemonic names, and that row's operands are the command's (R63, R64). -/

namespace Sys2Proof.Laws.RowMatch

/-- The row of the opcode map a command belongs to (R64). -/
def row : Instr → Opcode
  | .cfg _ => .cfg
  | .start => .start
  | .stop => .stop
  | .wrb _ => .wrb
  | .rdb _ => .rdb
  | .openTxn _ _ => .openTxn
  | .wrseq _ => .wrseq
  | .rdseq _ => .rdseq
  | .close => .close
  | .decode => .decode
  | .fpush => .fpush
  | .measure => .measure

/-- A well-formed command's word selects its row, and the row reads the command back from it. -/
def Statement (i : Instr) : Prop :=
  i.wf = true → (row i).selects (encode i) = true ∧ (row i).instr (encode i) = i

theorem cfg (b : Byte) : Statement (.cfg b) := fun _ => by
  revert b; decide

theorem start : Statement .start := by unfold Statement; decide

theorem stop : Statement .stop := by unfold Statement; decide

theorem wrb (b : Byte) : Statement (.wrb b) := fun _ => by
  revert b; decide

theorem rdb (ack : Bool) : Statement (.rdb ack) := fun _ => by
  revert ack; decide

theorem openTxn (a7 : DeviceAddr) (d : Direction) : Statement (.openTxn a7 d) := fun _ => by
  cases d <;> (revert a7; decide)

theorem wrseq (n : BitVec 4) : Statement (.wrseq n) := by
  unfold Statement; revert n; decide

theorem rdseq (n : BitVec 4) : Statement (.rdseq n) := by
  unfold Statement; revert n; decide

theorem close : Statement .close := by unfold Statement; decide

theorem decode : Statement .decode := by unfold Statement; decide

theorem fpush : Statement .fpush := by unfold Statement; decide

theorem measure : Statement .measure := by unfold Statement; decide

end Sys2Proof.Laws.RowMatch
end

