-- ==== Sys2Proof/Laws/Step.lean ====
section
/-! SUPPORT. Once, everything a step of the model can do: whose turn it was, and what that turn did. A proof about every
step starts from `step_cases`. -/

namespace Sys2Proof.Machine

variable {s t : State}

/-- Everything one step of the SEQUENCER can do (R65, R124). -/
theorem sequencerStep_cases (h : sequencerStep s = .next t) :
    (s.busy = false ∧ t = s) ∨
    (s.busy = true ∧ ∃ i, decodeWord s.cmdLatch = .ok i ∧ exec i s = .next t) ∨
    (s.busy = true ∧ (∃ e, decodeWord s.cmdLatch = .error e) ∧ t = s.finish .illegal) := by
  unfold sequencerStep at h
  cases hb : s.busy
  · simp only [hb, Bool.false_eq_true, if_false] at h
    exact .inl ⟨rfl, by simpa using h.symm⟩
  · simp only [hb, if_true] at h
    cases hd : decodeWord s.cmdLatch with
    | ok i => exact .inr (.inl ⟨rfl, i, rfl, by simpa [hd] using h⟩)
    | error e => exact .inr (.inr ⟨rfl, ⟨e, rfl⟩, by simpa [hd] using h.symm⟩)

/-- Everything one HOST access can do (R42 to R47). -/
theorem hostStep_cases {a : HostAccess} (h : hostStep a s = .next t) :
    (∃ addr width r, a = .read addr width ∧ accessReg s.params addr width = .ok r ∧
      t = s.hostRead r) ∨
    (∃ addr width v r, a = .write addr width v ∧ accessReg s.params addr width = .ok r ∧
      t = s.hostWrite r v) := by
  cases a with
  | read addr width =>
    unfold hostStep at h
    cases hr : accessReg s.params addr width with
    | ok r => exact .inl ⟨addr, width, r, rfl, hr, by simpa [hr] using h.symm⟩
    | error e => simp [hr] at h
  | write addr width v =>
    unfold hostStep at h
    cases hr : accessReg s.params addr width with
    | ok r => exact .inr ⟨addr, width, v, r, rfl, hr, by simpa [hr] using h.symm⟩
    | error e => simp [hr] at h

/-- An access of R42 is one of 4 bytes at a multiple of 4 in the window. -/
theorem accessReg_ok {p : Params} {addr width : Nat} {r : Reg} (h : accessReg p addr width = .ok r) :
    width = 4 ∧ p.pBase ≤ addr ∧ addr + 4 ≤ p.pBase + 64 ∧ (addr - p.pBase) % 4 = 0 ∧
      r = regAt (addr - p.pBase) := by
  unfold accessReg at h
  split at h
  · cases h
  split at h
  · cases h
  split at h
  · cases h
  cases h
  exact ⟨by omega, by omega, by omega, by omega, rfl⟩

/-- One pass of WAIT (R69): the HOST gets STATUS, and the turns change. -/
theorem State.waitPass_eq (rest : List Turn) (s : State) : s.waitPass rest = { s with
    hostReads := s.hostReads ++ [s.statusWord]
    agenda := if s.busy then .sequencer :: .wait :: rest else rest } := by
  simp [State.waitPass, State.hostRead, Reg.drawnWhileBusy, State.regValue, State.statusWord]

/-- Everything a step of the model can do: a step of the SEQUENCER, a pass of WAIT, the reset input or a HOST access
(R54, R69, R123). -/
theorem step_cases (h : step s = .next t) :
    (s.agenda = [] ∧ sequencerStep s = .next t) ∨
    (∃ rest, s.agenda = .sequencer :: rest ∧ sequencerStep { s with agenda := rest } = .next t) ∨
    (∃ rest, s.agenda = .wait :: rest ∧ t = s.waitPass rest) ∨
    (∃ rest, s.agenda = .reset :: rest ∧ t = State.resetInput { s with agenda := rest }) ∨
    (∃ a rest, s.agenda = .host a :: rest ∧ hostStep a { s with agenda := rest } = .next t) := by
  unfold step turnStep at h
  split at h
  next ha => exact .inl ⟨ha, h⟩
  next rest ha => exact .inr (.inl ⟨rest, ha, h⟩)
  next rest ha => exact .inr (.inr (.inl ⟨rest, ha, by simpa using h.symm⟩))
  next rest ha => exact .inr (.inr (.inr (.inl ⟨rest, ha, by simpa using h.symm⟩)))
  next a rest ha => exact .inr (.inr (.inr (.inr ⟨a, rest, ha, h⟩)))

end Sys2Proof.Machine
end

