-- ==== Sys2Proof/Tests/Slice0.lean ====
section
/-! SUPPORT. The model's own tests: ill-formed terms, words written out from spec/30_encoding.md, one step of each
command with the values of spec/95_test_vectors.md, and a witness for the hypotheses of every statement. -/

namespace Sys2Proof.Tests

open Sys2Proof.Machine

/-! ### Helpers -/

/-- A field of the state a step answers, if it answers one. -/
def peek {α : Type} (o : StepOutcome) (f : State → α) : Option α :=
  match o with
  | .next t => some (f t)
  | .fault _ => none
  | .refused _ => none

/-- The state after reset with the turns `ts` to come. -/
def withTurns (ts : List Turn) : State := { State.reset with agenda := ts }

/-- A configured block at the first step of a command, the bus to answer `as`. -/
def ready (as : List BusAnswer) : State :=
  { State.reset with configured := true, busDiv := 0x48, answers := as }

/-- `ready` with the bus active. -/
def active (as : List BusAnswer) : State := { ready as with busActive := true }

/-- `active` with a transaction open in direction `d`, BUF[0..7] = 0x00..0x07. -/
def opened (d : Direction) (as : List BusAnswer) : State :=
  { active as with txnOpen := true, txnDir := d, buf := #v[0, 1, 2, 3, 4, 5, 6, 7] }

/-- The block while the command of the word `w` is in progress, at its first step. -/
def running (w : Word) : State := { State.reset with cmdLatch := w, busy := true }

/-- A MEASURE in progress at the position `p`, the bus active, the bus to answer `as`. -/
def measuring (p : SeqPos) (as : List BusAnswer) : State :=
  { active as with cmdLatch := 0x0000000C, busy := true, pos := p }

/-- The block with the frame bytes `f0` to `f5` in BUF. -/
def framed (f0 f1 f2 f3 f4 f5 : Byte) : State :=
  { State.reset with buf := #v[f0, f1, f2, f3, f4, f5, 0, 0] }

/-! ### Ill-formed terms (R63, R67) -/

theorem test_wf_refuses_wrseq_zero : (Instr.wrseq 0).wf = false := by decide
theorem test_wf_refuses_wrseq_nine : (Instr.wrseq 9).wf = false := by decide
theorem test_wf_refuses_rdseq_zero : (Instr.rdseq 0).wf = false := by decide
theorem test_wf_refuses_rdseq_nine : (Instr.rdseq 9).wf = false := by decide
theorem test_wf_takes_the_ends : (Instr.wrseq 1).wf && (Instr.rdseq 8).wf = true := by decide
theorem test_assembler_rejects_out_of_range :
    [Asm.cfg 256, .wrb 256, .openW 128, .openR 128, .wrseq 0, .wrseq 9, .rdseq 0, .rdseq 9].map
      Asm.word = List.replicate 8 none := by decide
theorem test_status_map_default_is_wf : StatusMap.default.wf = true := by decide
theorem test_status_map_equal_pair_is_not_wf :
    { StatusMap.default with slawNack := 0x18 }.wf = false := by decide

/-! ### Decoding, each word written out field by field: reserved, a, b, n, d, op (R61) -/

theorem test_decode_cfg :
    decodeWord 0b000000000_0000000_01001000_000_0_0001 = .ok (.cfg 0x48) := by decide
theorem test_decode_start :
    decodeWord 0b000000000_0000000_00000000_000_0_0010 = .ok .start := by decide
theorem test_decode_stop :
    decodeWord 0b000000000_0000000_00000000_000_0_0011 = .ok .stop := by decide
theorem test_decode_wrb :
    decodeWord 0b000000000_0000000_10101100_000_0_0100 = .ok (.wrb 0xAC) := by decide
theorem test_decode_rdb_ack :
    decodeWord 0b000000000_0000000_00000000_000_1_0101 = .ok (.rdb true) := by decide
theorem test_decode_rdb_nack :
    decodeWord 0b000000000_0000000_00000000_000_0_0101 = .ok (.rdb false) := by decide
theorem test_decode_open_write :
    decodeWord 0b000000000_0111000_00000000_000_0_0110 = .ok (.openTxn 0x38 .write) := by decide
theorem test_decode_open_read :
    decodeWord 0b000000000_1111111_00000000_000_1_0110 = .ok (.openTxn 0x7F .read) := by decide
theorem test_decode_wrseq :
    decodeWord 0b000000000_0000000_00000000_010_0_0111 = .ok (.wrseq 3) := by decide
theorem test_decode_wrseq_eight :
    decodeWord 0b000000000_0000000_00000000_111_0_0111 = .ok (.wrseq 8) := by decide
theorem test_decode_rdseq :
    decodeWord 0b000000000_0000000_00000000_110_0_1000 = .ok (.rdseq 7) := by decide
theorem test_decode_rdseq_one :
    decodeWord 0b000000000_0000000_00000000_000_0_1000 = .ok (.rdseq 1) := by decide
theorem test_decode_close :
    decodeWord 0b000000000_0000000_00000000_000_0_1001 = .ok .close := by decide
theorem test_decode_decode :
    decodeWord 0b000000000_0000000_00000000_000_0_1010 = .ok .decode := by decide
theorem test_decode_fpush :
    decodeWord 0b000000000_0000000_00000000_000_0_1011 = .ok .fpush := by decide
theorem test_decode_measure :
    decodeWord 0b000000000_0000000_00000000_000_0_1100 = .ok .measure := by decide

/-- The illegal words of spec/95_test_vectors.md section 2, with the case of R66 each is. -/
theorem test_illegal_words_no_opcode :
    [0x00000000, 0x0000000D, 0x0000000E, 0x0000000F].map decodeWord =
      List.replicate 4 (.error .noSuchOpcode) := by decide
theorem test_illegal_words_reserved :
    [0x00800006, 0x80000002].map decodeWord = List.replicate 2 (.error .reservedBits) := by decide
theorem test_illegal_words_unused_field :
    [0x00000012, 0x00000013, 0x00000014, 0x00000105, 0x00000025, 0x00380106, 0x00000037,
      0x00010007, 0x00000109, 0x0001000C, 0x00001011].map decodeWord =
      List.replicate 11 (.error .unusedField) := by decide

theorem test_table_word : decodeTableWord 32 0x00380016 = some (.openTxn 0x38 .read) := by decide
theorem test_table_word_refused : decodeTableWord 32 0x00000037 = none := by decide

/-! ### Registers (spec/95_test_vectors.md section 3) -/

theorem test_reset_status : State.reset.statusWord = 0x00F80000 := by decide
theorem test_read_status_of_reset :
    peek (step (withTurns [.host (.read 0x04 4)])) (fun t => t.hostReads) = some [0x00F80000] := by
  decide
theorem test_write_buf0 :
    peek (step (withTurns [.host (.write 0x0C 4 0x44332211)])) (fun t => t.buf.toList) =
      some [0x11, 0x22, 0x33, 0x44, 0, 0, 0, 0] := by decide
theorem test_write_buf1 :
    peek (step (withTurns [.host (.write 0x10 4 0x88776655)])) (fun t => t.buf.toList) =
      some [0, 0, 0, 0, 0x55, 0x66, 0x77, 0x88] := by decide
theorem test_write_status_is_ignored :
    peek (step (withTurns [.host (.write 0x04 4 0xFFFFFFFF)])) (fun t => t.statusWord) =
      some 0x00F80000 := by decide
theorem test_status_while_settling :
    { measuring .settling [] with
      busActive := false, seqState := .settling, lastBusStatus := 0x28 }.statusWord =
      0x00282003 := by decide
theorem test_setbuf_words :
    HostStmt.turns Params.decided (.setbuf [0xAC, 0x33, 0x00]) =
      some [.host (.write 0x0C 4 0x000033AC), .host (.write 0x10 4 0)] := by decide
/-- R69: a pass of WAIT while BUSY = 1 reads STATUS with s[0] = 1 and goes round, the SEQUENCER's turn between. -/
theorem test_wait_goes_round :
    peek (step { running 0x0C with agenda := [.wait] }) (fun t => (t.hostReads, t.agenda)) =
      some ([0x00F80001], [.sequencer, .wait]) := by decide
/-- R69: the last pass of WAIT gives the HOST the RESULT of the command (here V-TXN-2's, so a PROBE's too). -/
theorem test_wait_delivers_the_result :
    peek (step { ready [] with
        result := .addrNack, lastBusStatus := 0x20, agenda := [.wait, .host (.write 0x00 4 0x09)] })
      (fun t => (t.hostReads, t.agenda)) =
      some ([0x00200202], [.host (.write 0x00 4 0x09)]) := by decide
theorem test_probe_turns :
    HostStmt.turns Params.decided (.probe 0x38) =
      some [.host (.write 0x00 4 0x00380006), .wait, .host (.write 0x00 4 0x00000009), .wait] := by
  decide
theorem test_address_bytes :
    [addressByte 0x38 .write, addressByte 0x38 .read, addressByte 0x00 .write,
      addressByte 0x7F .read] = [0x70, 0x71, 0x00, 0xFF] := by decide

/-- V-SRC-1: (10 %RH, 20 °C) packs to the source's frame, and V-DEC-4's fields are exactly 50 %RH and 25 °C. -/
theorem test_packing : packHumidity 10 = 104857 ∧ packTemperature 20 = 367001 := by
  constructor <;> norm_num [packHumidity, packTemperature, Rat.floor_def] <;> rfl
theorem test_physical_values : humidity 0x80000 = 50 ∧ temperature 0x60000 = 25 := by
  have h : (0x80000 : Field).toNat = 524288 := rfl
  have t : (0x60000 : Field).toNat = 393216 := rfl
  constructor <;> simp only [humidity, temperature, h, t] <;> norm_num

/-! ### One step of each command -/

/-- V-LNK-1. -/
theorem test_cfg_status : peek (exec (.cfg 0x48) State.reset) State.statusWord = some 0x00F80102 := by
  decide
/-- V-LNK-3. -/
theorem test_cfg_on_an_active_bus :
    peek (exec (.cfg 0x10) (active [])) (fun t => (t.result, t.err, t.busDiv)) =
      some (.usage, true, 0x48) := by decide
/-- V-LNK-6. -/
theorem test_start_repeated :
    peek (exec .start (active [.done 0x10 0])) (fun t => (t.history, t.lastBusStatus, t.pos)) =
      some ([.repStart], 0x10, .ending .ok) := by decide
/-- V-LNK-8. -/
theorem test_start_timeout :
    peek (exec .start { ready [.silent] with lastBusStatus := 0x58 })
      (fun t => (t.history, t.busActive, t.lastBusStatus, t.pos)) =
      some ([.start], true, 0x58, .ending .busTimeout) := by decide
/-- V-LNK-10. -/
theorem test_stop_on_an_idle_bus :
    peek (exec .stop (ready [])) (fun t => (t.history, t.result)) = some ([.stop], .ok) := by decide
/-- V-LNK-9. -/
theorem test_stop_ends_the_transaction :
    peek (exec .stop (opened .write [])) (fun t => (t.busActive, t.txnOpen, t.lastBusStatus)) =
      some (false, false, 0xF8) := by decide
/-- V-LNK-13. -/
theorem test_wrb_nacked :
    peek (exec (.wrb 0x70) (active [.done 0x20 0]))
      (fun t => (t.history, t.lastBusStatus, t.pos)) = some ([.tx 0x70], 0x20, .ending .ok) := by
  decide
/-- V-LNK-14. -/
theorem test_wrb_on_an_idle_bus :
    peek (exec (.wrb 0x70) (ready [])) (fun t => (t.history, t.result, t.err)) =
      some ([], .usage, true) := by decide
/-- V-LNK-16. -/
theorem test_rdb_writes_whatever_the_status :
    peek (exec (.rdb true) (active [.done 0x48 0x77])) (fun t => (t.history, t.buf[0], t.pos)) =
      some ([.rx true], 0x77, .ending .ok) := by decide
/-- V-LNK-17. -/
theorem test_rdb_timeout :
    peek (exec (.rdb true) (opened .read [.silent])) (fun t => (t.buf[0], t.pos)) =
      some (0x00, .ending .busTimeout) := by decide
/-- V-TXN-5. -/
theorem test_open_wrong_start_status :
    peek (exec (.openTxn 0x38 .write) (ready [.done 0x10 0])) (fun t => (t.history, t.pos)) =
      some ([.start, .stop], .ending .protocolFault) := by decide
/-- V-TXN-4: 0x20 is the write NACK code, not the read one. -/
theorem test_open_read_with_the_write_nack :
    peek (exec (.openTxn 0x38 .read) { active [.done 0x20 0] with pos := .address })
      (fun t => (t.history, t.pos)) =
      some ([.tx 0x71, .stop], .ending .protocolFault) := by decide
/-- V-TXN-11. -/
theorem test_wrseq_data_nack :
    peek (exec (.wrseq 3) { opened .write [.done 0x30 0] with pos := .data 1 })
      (fun t => (t.history, t.txnOpen, t.pos)) =
      some ([.tx 0x01, .stop], false, .ending .protocolFault) := by decide
/-- V-TXN-17, its last byte. -/
theorem test_wrseq_eighth_byte :
    peek (exec (.wrseq 8) { opened .write [.done 0x28 0] with pos := .data 7 })
      (fun t => (t.history, t.txnOpen, t.pos)) = some ([.tx 0x07], true, .ending .ok) := by decide
/-- V-TXN-7: byte 2 of 4 expected 0x50, got 0x58, and is not stored. -/
theorem test_rdseq_early_nack_status :
    peek (exec (.rdseq 4) { opened .read [.done 0x58 0xEE] with pos := .data 2 })
      (fun t => (t.history, t.buf[2], t.pos)) =
      some ([.rx true, .stop], 0x02, .ending .protocolFault) := by decide
/-- V-TXN-8. -/
theorem test_rdseq_one_byte :
    peek (exec (.rdseq 1) (opened .read [.done 0x58 0x5A]))
      (fun t => (t.history, t.buf[0], t.pos)) = some ([.rx false], 0x5A, .ending .ok) := by decide
/-- V-TXN-15. -/
theorem test_close :
    peek (exec .close (opened .read [])) (fun t => (t.history, t.busActive, t.txnOpen, t.result)) =
      some ([.stop], false, false, .ok) := by decide
/-- V-SRC-1. -/
theorem test_decode_source_frame :
    peek (exec .decode (framed 0x00 0x19 0x99 0x95 0x99 0x99))
      (fun t => (t.rawH, t.rawT, t.decValid, t.result)) =
      some (0x19999, 0x59999, true, .ok) := by decide
/-- V-DEC-5. -/
theorem test_decode_busy_frame :
    peek (exec .decode { framed 0x80 0x12 0x34 0x56 0x78 0x9A with rawH := 7, decValid := true })
      (fun t => (t.rawH, t.decValid, t.result, t.err)) =
      some (7, false, .sensorBusy, false) := by decide
/-- V-SRC-2, the fourth push, which evicts slot 0. -/
theorem test_fpush_evicts_the_oldest :
    peek (exec .fpush { State.reset with
      decValid := true, rawH := 104857, rawT := 387973, count := 3
      winH := #v[104857, 104857, 104857], winT := #v[367001, 372244, 377487] })
      (fun t => (t.avgTSum, t.avgHSum, t.count, t.wrIdx)) =
      some (1137704, 314571, 3, 1) := by decide
/-- R106, FPUSH without a decoded sample. -/
theorem test_fpush_without_a_sample :
    peek (exec .fpush State.reset) (fun t => (t.result, t.err, t.count)) =
      some (.usage, true, 0) := by decide
/-- R95: the third trigger byte, then P and SETTLING. -/
theorem test_measure_last_trigger_byte :
    peek (exec .measure { measuring (.trigData 2) [.done 0x28 0] with txnOpen := true })
      (fun t => (t.history, t.seqState, t.busActive, t.pos)) =
      some ([.tx 0x00, .stop], .settling, false, .settling) := by decide
/-- V-MEA-1's last byte: the sample is decoded and pushed. -/
theorem test_measure_last_frame_byte :
    peek (exec .measure { measuring (.readData 6) [.done 0x58 0x00] with
      txnOpen := true, txnDir := .read, buf := #v[0x00, 0x19, 0x99, 0x95, 0x99, 0x99, 0, 0] })
      (fun t => (t.history, t.seqState, t.rawH, t.rawT, t.avgTSum, t.pos)) =
      some ([.rx false, .stop], .ready, 0x19999, 0x59999, 367001, .ending .ok) := by decide

/-! ### Placing a command -/

theorem test_placed_command_runs :
    peek (step (State.reset.withFetchWord 32 0x00004801)) State.statusWord = some 0x00F80102 := by
  decide
theorem test_placed_illegal_word :
    peek (step (State.reset.withFetchWord 32 0x00000012)) (fun t => (t.result, t.err, t.busy)) =
      some (.illegal, true, false) := by decide

/-! ### Witnesses: states and operands that meet the hypotheses of each statement together -/

/-- The offsets of the window (R17), both ends of the reserved range among them. -/
def offsets : List Nat :=
  [0x00, 0x04, 0x08, 0x0C, 0x10, 0x14, 0x18, 0x1C, 0x20, 0x24, 0x28, 0x3C]

/-- One command of each row (R64), with its operands at the ends of their ranges. -/
def commands : List Instr :=
  [.cfg 0xFF, .start, .stop, .wrb 0xFF, .rdb true, .rdb false, .openTxn 0x7F .read,
    .openTxn 0x00 .write, .wrseq 1, .wrseq 8, .rdseq 1, .rdseq 8, .close, .decode, .fpush, .measure]

theorem witness_reset_input :
    ∀ p ∈ [SeqPos.first, .data 7, .settling],
      { measuring p [] with agenda := [.reset] }.agenda = .reset :: [] := by decide

theorem witness_legal_accesses :
    ∀ off ∈ offsets, legalAccess Params.decided off 4 ∧
      (withTurns [.host (.read off 4)]).agenda = .host (.read off 4) :: [] ∧
      (withTurns [.host (.write off 4 1)]).agenda = .host (.write off 4 1) :: [] := by
  unfold legalAccess; decide

/-- The boundary cases of R42: a 2-byte access, offset 0x02, and the first address after the window. -/
theorem witness_illegal_accesses :
    ¬ legalAccess Params.decided 0x00 2 ∧ ¬ legalAccess Params.decided 0x02 4 ∧
      ¬ legalAccess Params.decided 0x40 4 := by
  unfold legalAccess; decide

theorem witness_host_reads :
    ∀ off ∈ offsets, off < 64 ∧ off % 4 = 0 ∧
      (withTurns [.host (.read off 4)]).agenda =
        .host (.read ((withTurns []).params.pBase + off) 4) :: [] ∧
      (withTurns [.host (.read off 4)]).busy = false := by decide

theorem witness_idle_writes :
    ∀ off ∈ offsets, (withTurns [.host (.write off 4 0x0C)]).busy = false ∧
      (withTurns [.host (.write off 4 0x0C)]).agenda =
        .host (.write ((withTurns []).params.pBase + off) 4 0x0C) :: [] := by decide

theorem witness_cmd_write_then_command :
    decodeWord 0x0C = .ok .measure ∧
      ({ State.reset with cmdLatch := 0x0C, busy := true } : State).sequencerTurn =
        some { State.reset with cmdLatch := 0x0C, busy := true } := by decide

theorem witness_busy_writes :
    ∀ off ∈ [0x00, 0x0C, 0x10],
      { measuring .settling [] with agenda := [.host (.write off 4 1)] }.busy = true ∧
      { measuring .settling [] with agenda := [.host (.write off 4 1)] }.agenda =
        .host (.write ((measuring .settling []).params.pBase + off) 4 1) :: [] := by decide

theorem witness_well_formed : ∀ i ∈ commands, i.wf = true ∧ decodeWord (encode i) = .ok i := by
  decide

theorem witness_row_selects : Opcode.openTxn.selects 0x007F0016 = true := by decide

/-- One word for each case of R66. -/
theorem witness_illegal_words :
    illegalWord 0x00000000 ∧ illegalWord 0x0000000D ∧ illegalWord 0x00800006 ∧
      illegalWord 0x00000012 ∧ illegalWord 0x00000025 ∧ illegalWord 0x00000109 ∧
      illegalWord 0x0001000C := by
  refine ⟨?_, ?_, ?_, ?_, ?_, ?_, ?_⟩ <;> (unfold illegalWord; decide)

theorem witness_illegal_word_latched :
    illegalWord (running 0x00000012).cmdLatch ∧ (running 0x00000012).busy = true ∧
      (running 0x00000012).sequencerTurn = some (running 0x00000012) := by
  unfold illegalWord; decide

theorem witness_latched_command :
    ∀ i ∈ commands, (running (encode i)).busy = true ∧
      (running (encode i)).sequencerTurn = some (running (encode i)) ∧
      decodeWord (running (encode i)).cmdLatch = .ok i := by decide

/-- The two ways the SEQUENCER gets its turn (R54). -/
theorem witness_sequencer_turns :
    (running 0x0C).sequencerTurn = some (running 0x0C) ∧
      { running 0x0C with agenda := [.sequencer] }.sequencerTurn = some (running 0x0C) := by decide

/-- WAIT while BUSY = 1 and while BUSY = 0. -/
theorem witness_wait :
    { running 0x0C with agenda := [.wait] }.agenda = .wait :: [] ∧
      { running 0x0C with agenda := [.wait] }.busy = true ∧
      (withTurns [.wait]).agenda = .wait :: [] ∧ (withTurns [.wait]).busy = false := by decide

theorem witness_idle_sequencer :
    State.reset.busy = false ∧ State.reset.sequencerTurn = some State.reset := by decide

theorem witness_starting_step :
    (withTurns [.host (.write 0x00 4 0x0C)]).busy = false ∧
      peek (step (withTurns [.host (.write 0x00 4 0x0C)])) State.busy = some true := by decide

theorem witness_listed_answer :
    (ready [.silent]).answers = .silent :: [] ∧ (ready []).answers = [] := by decide

theorem witness_ending :
    ∀ i ∈ [Instr.start, .wrb 0, .rdb true, .openTxn 0 .read, .wrseq 8, .rdseq 1, .measure],
      i.wf = true ∧ waitsOnBus i = true ∧
        (measuring (.ending .busTimeout) []).pos = .ending .busTimeout := by decide

theorem witness_unconfigured :
    State.reset.pos = .first ∧ State.reset.configured = false ∧ State.reset.busActive = false ∧
      (∀ i ∈ [Instr.start, .stop, .wrb 0, .rdb true, .openTxn 0 .read, .wrseq 8, .rdseq 1, .close,
        .measure], i.wf = true ∧ needsConfigured i = true) ∧
      { State.reset with decValid := true }.decValid = true := by decide

/-- A false precondition of every row of R110 past its check of CONFIGURED. -/
theorem witness_false_preconditions :
    precondition (.cfg 0) { active [] with busy := true } = false ∧
      precondition (.wrb 0) { ready [] with busy := true } = false ∧
      precondition (.rdb true) { ready [] with busy := true } = false ∧
      precondition (.openTxn 0 .read) { opened .read [] with busy := true } = false ∧
      precondition .measure { opened .read [] with busy := true } = false ∧
      precondition (.wrseq 1) { opened .read [] with busy := true } = false ∧
      precondition (.rdseq 1) { opened .write [] with busy := true } = false ∧
      precondition .fpush (running 0x0B) = false := by decide

theorem witness_true_preconditions :
    ∀ i ∈ [Instr.start, .stop, .wrb 0, .rdb true, .openTxn 0 .read, .close, .decode, .measure],
      { active [.silent] with busy := true }.busy = true ∧
        precondition i { active [.silent] with busy := true } = true ∧
        { active [.silent] with busy := true }.pos ≠ .ending .usage := by decide

/-- A wait of P_WAIT_BOUND = 0 that the bus does not answer. -/
def hanging (p : SeqPos) : State :=
  { measuring p [.silent] with params := { Params.decided with waitBound := 0 } }

theorem witness_hang :
    ∀ p ∈ [SeqPos.first, .trigStart, .trigAddress, .trigData 2, .readStart, .readAddress,
      .readData 6], (hanging p).params.waitBound = 0 ∧ (hanging p).nextAnswer.1 = .silent ∧
        waitsOnBus .measure = true ∧ posBelongs .measure (hanging p).pos = true ∧
        (hanging p).pos ≠ .settling ∧ (∀ r, (hanging p).pos ≠ .ending r) ∧
        precondition .measure (hanging p) = true := by
  intro p hp
  simp only [List.mem_cons, List.not_mem_nil, or_false] at hp
  rcases hp with rfl | rfl | rfl | rfl | rfl | rfl | rfl <;>
    exact ⟨rfl, rfl, rfl, rfl, nofun, nofun, rfl⟩

theorem witness_hang_of_a_link_command :
    waitsHere (.wrb 0) { active [.silent] with params := { Params.decided with waitBound := 0 } } :=
  ⟨rfl, rfl, nofun, nofun, fun _ => rfl⟩

theorem witness_ending_command :
    ∃ t, exec .measure (measuring (.ending .sensorBusy) []) = .next t ∧
      (measuring (.ending .sensorBusy) []).busy = true ∧
      posBelongs .measure (measuring (.ending .sensorBusy) []).pos = true ∧ t.busy = false :=
  ⟨_, rfl, rfl, rfl, rfl⟩

theorem witness_next_state_of_each_command :
    (∀ i ∈ commands, peek (exec i (opened .write [.done 0x28 0])) (fun _ => true) = some true) := by
  decide

/-- CFG's two clauses. -/
theorem witness_cfg :
    (ready []).pos = .first ∧ (ready []).busActive = false ∧ (active []).pos = .first ∧
      (active []).busActive = true := by decide

/-- START, STOP and CLOSE: configured and not, answered and not. -/
theorem witness_start_stop :
    State.reset.pos = .first ∧ State.reset.configured = false ∧
      (ready [.done 0x38 0]).pos = .first ∧ (ready [.done 0x38 0]).configured = true ∧
      (ready [.done 0x38 0]).nextAnswer = (.done 0x38 0, ready []) ∧
      (ready [.silent]).params.waitBound ≠ 0 ∧
      (ready [.silent]).nextAnswer = (.silent, ready []) := by decide

/-- WRB and RDB. -/
theorem witness_wrb_rdb :
    (ready []).busActive = false ∧ (active [.done 0x58 1]).pos = .first ∧
      (active [.done 0x58 1]).configured = true ∧ (active [.done 0x58 1]).busActive = true ∧
      (active [.done 0x58 1]).nextAnswer = (.done 0x58 1, active []) ∧
      (active [.silent]).params.waitBound ≠ 0 ∧
      (active [.silent]).nextAnswer = (.silent, active []) := by decide

/-- OPEN's two steps, on an idle bus and on an active one. -/
theorem witness_open :
    (ready [.done 0x08 0]).pos = .first ∧ (ready [.done 0x08 0]).configured = true ∧
      (ready [.done 0x08 0]).txnOpen = false ∧
      (active [.done 0x10 0]).nextAnswer = (.done 0x10 0, active []) ∧
      { active [.done 0x48 0] with pos := .address }.pos = .address ∧
      { active [.done 0x48 0] with pos := .address }.nextAnswer =
        (.done 0x48 0, { active [] with pos := .address }) ∧
      (ready [.silent]).params.waitBound ≠ 0 ∧
      (ready [.silent]).nextAnswer = (.silent, ready []) := by decide

theorem witness_open_completes :
    ∀ d ∈ [Direction.write, .read],
      let s := ready [.done 0x08 0, .done (if d = .write then 0x18 else 0x40) 0]
      s.pos = .first ∧ s.configured = true ∧ s.txnOpen = false ∧
      s.answers = .done (if s.busActive then s.params.st.repStart else s.params.st.start) 0 ::
        .done (if d = .write then s.params.st.slawAck else s.params.st.slarAck) 0 :: [] := by
  decide

theorem witness_open_nacked :
    ∀ d ∈ [Direction.write, .read],
      let s := ready [.done 0x08 0, .done (if d = .write then 0x20 else 0x48) 0]
      s.pos = .first ∧ s.configured = true ∧ s.txnOpen = false ∧ s.params.abortStop = true ∧
      s.params.st.wf = true ∧
      s.answers = .done (if s.busActive then s.params.st.repStart else s.params.st.start) 0 ::
        .done (if d = .write then s.params.st.slawNack else s.params.st.slarNack) 0 :: [] := by
  decide

/-- WRSEQ and RDSEQ, one byte: the first step and the last byte of eight. -/
theorem witness_one_byte :
    ∀ d ∈ [Direction.write, .read],
      (opened d [.done 0x28 0]).pos = .first ∧ (opened d [.done 0x28 0]).configured = true ∧
      (opened d [.done 0x28 0]).txnOpen = true ∧ (opened d [.done 0x28 0]).txnDir = d ∧
      { opened d [.done 0x28 0] with pos := .data 7 }.pos = .data 7 ∧
      (opened d [.done 0x28 0]).nextAnswer = (.done 0x28 0, opened d []) ∧
      (opened d [.silent]).nextAnswer = (.silent, opened d []) ∧
      (opened d [.silent]).params.waitBound ≠ 0 ∧
      1 ≤ (8 : BitVec 4).toNat ∧ (8 : BitVec 4).toNat ≤ 8 ∧ (7 : Fin 8).val < (8 : BitVec 4).toNat ∧
      (0 : Fin 8).val < (1 : BitVec 4).toNat := by decide

theorem witness_wrseq_completes :
    let s := opened .write [.done 0x28 9, .done 0x28 9]
    s.pos = .first ∧ s.configured = true ∧ s.txnOpen = true ∧ s.txnDir = .write ∧
    ([9, 9] : List Byte).length = (2 : BitVec 4).toNat ∧
    s.answers = ([9, 9] : List Byte).map (fun x => .done s.params.st.txdAck x) ++ [] := by decide

theorem witness_rdseq_completes :
    let s := opened .read [.done 0x50 9, .done 0x58 3]
    s.pos = .first ∧ s.configured = true ∧ s.txnOpen = true ∧ s.txnDir = .read ∧
    ([9] : List Byte).length + 1 = (2 : BitVec 4).toNat ∧
    s.answers = ([9] : List Byte).map (fun x => .done s.params.st.rxdAck x) ++
      .done s.params.st.rxdNack 3 :: [] := by decide

/-- DECODE's two clauses. -/
theorem witness_decode :
    (framed 0x7F 0 0 0 0 0).pos = .first ∧ (framed 0x7F 0 0 0 0 0).buf[0].getLsbD 7 = false ∧
      (framed 0x80 0 0 0 0 0).buf[0].getLsbD 7 = true := by decide

/-- The two clauses of R99 at the ends of their ranges, and a pair of neighbours for R92. -/
theorem witness_physical_ranges :
    ((0 : Rat) ≤ 0 ∧ (0 : Rat) < 100) ∧ ((-50 : Rat) ≤ -50 ∧ (-50 : Rat) < 150) ∧
      (0xFFFFF : Field).toNat = (0xFFFFE : Field).toNat + 1 := by decide

/-- Each wait of MEASURE, answered as expected. -/
theorem witness_measure_waits :
    (ready [.done 0x08 0]).nextAnswer = (.done 0x08 0, ready []) ∧
      (ready [.done 0x08 0]).pos = .first ∧ (ready [.done 0x08 0]).configured = true ∧
      (ready [.done 0x08 0]).txnOpen = false ∧
      (measuring .trigAddress [.done 0x18 0]).nextAnswer =
        (.done 0x18 0, measuring .trigAddress []) ∧
      (measuring (.trigData 2) [.done 0x28 0]).nextAnswer =
        (.done 0x28 0, measuring (.trigData 2) []) ∧
      (measuring .readStart [.done 0x10 0]).nextAnswer = (.done 0x10 0, measuring .readStart []) ∧
      (measuring .readAddress [.done 0x40 0]).nextAnswer =
        (.done 0x40 0, measuring .readAddress []) ∧
      (measuring (.readData 5) [.done 0x50 1]).nextAnswer =
        (.done 0x50 1, measuring (.readData 5) []) ∧
      (measuring (.readData 6) [.done 0x58 1]).nextAnswer =
        (.done 0x58 1, measuring (.readData 6) []) ∧
      (measuring .settling []).pos = .settling := by decide

/-- A timeout and an unexpected status at a wait of MEASURE. -/
theorem witness_measure_failures :
    waitsHere .measure (measuring .trigAddress [.silent]) ∧
      (measuring .trigAddress [.silent]).params.waitBound ≠ 0 ∧
      (measuring .trigAddress [.silent]).nextAnswer.1 = .silent ∧
      waitsHere .measure (measuring .readAddress [.done 0x48 0]) ∧
      (measuring .readAddress [.done 0x48 0]).nextAnswer.1 = .done 0x48 0 ∧
      (0x48 : Byte) ≠ Params.decided.st.slarAck :=
  ⟨⟨rfl, rfl, nofun, nofun, nofun⟩, by decide, rfl, ⟨rfl, rfl, nofun, nofun, nofun⟩, rfl, by decide⟩

/-- V-MEA-1's answers, from an idle configured block. -/
theorem witness_measure_completes :
    let f : Vector Byte 7 := #v[0x00, 0x19, 0x99, 0x95, 0x99, 0x99, 0x00]
    let s := ready (cycleAnswers StatusMap.default 0x08 f 0)
    s.pos = .first ∧ s.configured = true ∧ s.txnOpen = false ∧ f[0].getLsbD 7 = false ∧
    s.answers = cycleAnswers s.params.st
      (if s.busActive then s.params.st.repStart else s.params.st.start) f 0 ++ [] := by decide

/-- FPUSH's two clauses. -/
theorem witness_fpush :
    State.reset.pos = .first ∧ State.reset.decValid = false ∧
      { State.reset with decValid := true }.decValid = true := by decide

/-- R103's two clauses. -/
theorem witness_average :
    State.reset.count = 0 ∧ { State.reset with count := 3 }.count ≠ 0 := by decide

/-- RDB past BUF[0], RDSEQ 4 past BUF[3], MEASURE at BUF[7]. -/
theorem witness_unwritten_bytes :
    (∃ t, exec (.rdseq 4) (opened .read [.done 0x50 0xEE]) = .next t) ∧
      posBelongs (.rdseq 4) (opened .read [.done 0x50 0xEE]).pos = true ∧
      (4 : BitVec 4).toNat ≤ (4 : Fin 8).val ∧ 0 < (1 : Fin 8).val := ⟨⟨_, rfl⟩, by decide⟩

/-- A step that sets ERR, and one that sets OVERRUN. -/
theorem witness_err_and_overrun :
    peek (step (running 0x02)) (fun t => (t.err, t.busy, t.result)) = some (true, false, .usage) ∧
      (running 0x02).err = false ∧ (running 0x02).busy = true ∧
      peek (step { running 0x02 with agenda := [.host (.write 0x10 4 1)] }) State.overrun =
        some true ∧
      (running 0x02).overrun = false := by decide

/-- The invariant in the middle of a MEASURE, and with the HOST about to write. -/
theorem witness_invariant :
    State.Inv { measuring .trigAddress [.done 0x18 0] with
      history := [.start], seqState := .triggering } := by
  constructor <;> decide

/-- The engine-only invariant there, a turn of the HOST to come. -/
theorem witness_engine_invariant :
    State.EngineInv { measuring .trigAddress [.done 0x18 0] with
      history := [.start], seqState := .triggering, agenda := [.wait, .host (.write 0x00 4 0x0C)] } := by
  constructor <;> decide

theorem witness_engine_turns :
    Params.decided.abortStop = true ∧
      [Turn.host (.write 0x00 4 0x0C), .wait].all (engineTurn Params.decided) = true := by decide

/-- A command in progress with bounded waits and no turn left. -/
theorem witness_bounded_command :
    State.Inv (running 0x0C) ∧ (running 0x0C).params.waitBound ≠ 0 ∧ (running 0x0C).busy = true ∧
      (running 0x0C).agenda = [] := by
  refine ⟨?_, by decide⟩
  constructor <;> decide

/-- Two states that differ in the two slots COUNT = 1 leaves unpopulated. -/
theorem witness_unwritten_slots :
    State.Inv { State.reset with count := 1, wrIdx := 1, winH := #v[5, 6, 7] } ∧
      sameButUnwritten { State.reset with count := 1, wrIdx := 1, winH := #v[5, 6, 7] }
        { State.reset with count := 1, wrIdx := 1, winH := #v[5, 0, 1] } := by
  refine ⟨?_, by unfold sameButUnwritten; decide⟩
  constructor <;> decide

end Sys2Proof.Tests
end

section
/-! SUPPORT. STATUS and BUF in the register window, HOST writes to it, and the state right after reset (R19, R33, R39,
R45). -/

namespace Sys2Proof.Machine

/-! ### STATUS -/

/-- A bit of a word is the one-bit field at its place. -/
theorem getLsbD_of_extractLsb'_eq_ofBool {w : Word} {i : Nat} {b : Bool}
    (h : w.extractLsb' i 1 = BitVec.ofBool b) : w.getLsbD i = b := by
  simpa using congrArg (fun x => x.getLsbD 0) h

/-- The table of R19: every field of STATUS at its bits. -/
theorem State.extractLsb'_statusWord (s : State) :
    s.statusWord.extractLsb' 0 1 = BitVec.ofBool s.busy ∧
    s.statusWord.extractLsb' 1 1 = BitVec.ofBool s.configured ∧
    s.statusWord.extractLsb' 2 1 = BitVec.ofBool s.busActive ∧
    s.statusWord.extractLsb' 3 1 = BitVec.ofBool s.txnOpen ∧
    s.statusWord.extractLsb' 4 1 = s.txnDir.bit ∧
    s.statusWord.extractLsb' 5 1 = BitVec.ofBool s.decValid ∧
    s.statusWord.extractLsb' 6 1 = BitVec.ofBool s.err ∧
    s.statusWord.extractLsb' 7 1 = BitVec.ofBool s.overrun ∧
    s.statusWord.extractLsb' 8 4 = s.result.code ∧
    s.statusWord.extractLsb' 12 4 = s.seqState.code ∧
    s.statusWord.extractLsb' 16 8 = s.lastBusStatus ∧
    s.statusWord.extractLsb' 24 4 = s.retries ∧
    s.statusWord.extractLsb' 28 4 = 0 := by
  unfold State.statusWord
  -- the fields below the one asked for are peeled off, then those above it
  refine ⟨?_, ?_, ?_, ?_, ?_, ?_, ?_, ?_, ?_, ?_, ?_, ?_, ?reserved⟩ <;>
    repeat rw [BitVec.extractLsb'_append_eq_of_le (by decide)]
  case reserved => rfl
  all_goals
    rw [BitVec.extractLsb'_append_eq_of_add_le (by decide)]
    exact BitVec.extractLsb'_eq_self

/-- Settles O5: each field of STATUS is read off the concatenation, and the codes are those of the tables. -/
theorem statusFieldsStandWhereTheTablePutsThem :
    Obligations.StatusFieldsStandWhereTheTablePutsThem := by
  refine ⟨fun s => ?_, by decide, by decide⟩
  obtain ⟨h0, h1, h2, h3, h4, h5, h6, h7, hfields⟩ := s.extractLsb'_statusWord
  exact ⟨getLsbD_of_extractLsb'_eq_ofBool h0, getLsbD_of_extractLsb'_eq_ofBool h1,
    getLsbD_of_extractLsb'_eq_ofBool h2, getLsbD_of_extractLsb'_eq_ofBool h3, h4,
    getLsbD_of_extractLsb'_eq_ofBool h5, getLsbD_of_extractLsb'_eq_ofBool h6,
    getLsbD_of_extractLsb'_eq_ofBool h7, hfields⟩

/-! ### BUF -/

/-- The bytes packed into a word stand in it from bit 0 up (R33). -/
theorem extractLsb'_packWord (b0 b1 b2 b3 : Byte) :
    (packWord b0 b1 b2 b3).extractLsb' 0 8 = b0 ∧ (packWord b0 b1 b2 b3).extractLsb' 8 8 = b1 ∧
    (packWord b0 b1 b2 b3).extractLsb' 16 8 = b2 ∧
    (packWord b0 b1 b2 b3).extractLsb' 24 8 = b3 := by
  unfold packWord
  refine ⟨?_, ?_, ?_, ?_⟩ <;> repeat rw [BitVec.extractLsb'_append_eq_of_le (by decide)]
  case refine_4 => exact BitVec.extractLsb'_eq_self
  all_goals
    rw [BitVec.extractLsb'_append_eq_of_add_le (by decide)]
    exact BitVec.extractLsb'_eq_self

/-- BUF[k] as the register at its offset holds it (R33). -/
theorem State.buf_eq_extractLsb' (s : State) (k : Fin 8) :
    s.buf[k] = (s.regValue (regAt (0x0C + 4 * (k.val / 4)))).extractLsb' (8 * (k.val % 4)) 8 := by
  obtain ⟨h0, h1, h2, h3⟩ := extractLsb'_packWord s.buf[0] s.buf[1] s.buf[2] s.buf[3]
  obtain ⟨h4, h5, h6, h7⟩ := extractLsb'_packWord s.buf[4] s.buf[5] s.buf[6] s.buf[7]
  match k with
  | 0 => exact h0.symm
  | 1 => exact h1.symm
  | 2 => exact h2.symm
  | 3 => exact h3.symm
  | 4 => exact h4.symm
  | 5 => exact h5.symm
  | 6 => exact h6.symm
  | 7 => exact h7.symm

/-- A word access at a multiple of 4 in the window addresses the register there (R42). -/
theorem accessReg_window (p : Params) {off : Nat} (h : off < 64) (h4 : off % 4 = 0) :
    accessReg p (p.pBase + off) 4 = .ok (regAt off) := by
  have hin : ¬ (p.pBase + off < p.pBase ∨ p.pBase + 64 < p.pBase + off + 4) := by omega
  simp only [accessReg, if_neg hin, Nat.add_sub_cancel_left, h4, ne_eq, not_true, if_false]

/-- A HOST write to an offset of the window is that write of the register there. -/
theorem step_hostWrite {s : State} {rest : List Turn} {off : Nat} {v : Word}
    (ha : s.agenda = .host (.write (s.params.pBase + off) 4 v) :: rest) (h : off < 64)
    (h4 : off % 4 = 0) :
    step s = .next (State.hostWrite (regAt off) v { s with agenda := rest }) := by
  simp [step, turnStep, ha, hostStep, accessReg_window s.params h h4]

/-- BUF as the list of its eight bytes. -/
theorem vector_eq_literal (b : Vector Byte 8) :
    b = #v[b[0], b[1], b[2], b[3], b[4], b[5], b[6], b[7]] := by
  ext i hi
  match i with
  | 0 | 1 | 2 | 3 | 4 | 5 | 6 | 7 => rfl

theorem State.writeBuf0_eq (v : Word) (s : State) : s.writeBuf0 v = { s with
    buf := #v[v.extractLsb' 0 8, v.extractLsb' 8 8, v.extractLsb' 16 8, v.extractLsb' 24 8,
      s.buf[4], s.buf[5], s.buf[6], s.buf[7]] } := by
  rw [State.writeBuf0, vector_eq_literal (Vector.set _ _ _ _)]
  simp [byteOf]

theorem State.writeBuf1_eq (v : Word) (s : State) : s.writeBuf1 v = { s with
    buf := #v[s.buf[0], s.buf[1], s.buf[2], s.buf[3],
      v.extractLsb' 0 8, v.extractLsb' 8 8, v.extractLsb' 16 8, v.extractLsb' 24 8] } := by
  rw [State.writeBuf1, vector_eq_literal (Vector.set _ _ _ _)]
  simp [byteOf]

/-- Settles O7: the packing of R33, and each write of R45 as a step. -/
theorem bufferWriteSetsItsFourBytes : Obligations.BufferWriteSetsItsFourBytes := by
  refine ⟨State.buf_eq_extractLsb', fun s rest v hb => ⟨fun ha => ?_, fun ha => ?_⟩⟩
  · rw [step_hostWrite ha (by omega) (by omega)]
    simp [regAt, State.hostWrite, hb, State.writeBuf0_eq]
  · rw [step_hostWrite ha (by omega) (by omega)]
    simp [regAt, State.hostWrite, hb, State.writeBuf1_eq]

/-! ### Reset -/

theorem State.resetWith_atReset (p : Params) : (State.resetWith p).AtReset := by
  have hbuf : ∀ k : Fin 8, (State.resetWith p).buf[k] = 0x00 := by
    change ∀ k : Fin 8, (#v[0, 0, 0, 0, 0, 0, 0, 0] : Vector Byte 8)[k] = 0x00
    decide
  simp only [State.AtReset, hbuf, implies_true]
  trivial

/-- Settles O1: the table for every choice of the parameters, and STATUS of the decided ones evaluated. -/
theorem resetLeavesTheTableValues : Obligations.ResetLeavesTheTableValues :=
  ⟨State.resetWith_atReset, State.resetWith_atReset _, by decide⟩

theorem State.resetWith_inv (p : Params) : (State.resetWith p).Inv where
  resultWhileBusy h := nomatch h
  idlePos _ := rfl
  latch h := nomatch h
  active := rfl
  configured h := by simp [State.resetWith, midCommand] at h
  openActive h := nomatch h
  bus := rfl
  seqState := rfl
  retries := BitVec.le_def.mpr (Nat.zero_le _)
  window _ := rfl
  errSet h := nomatch h

theorem State.resetWith_engineInv {p : Params} {turns : List Turn} (hp : p.abortStop = true)
    (ht : turns.all (engineTurn p) = true) :
    ({ State.resetWith p with agenda := turns }).EngineInv where
  abortStop := hp
  turns := ht
  latch h := nomatch h
  closed h := nomatch h
  noRepStart h := nomatch h

/-- Settles O55: each clause of the invariants at the reset values. -/
theorem resetMeetsTheInvariants : Obligations.ResetMeetsTheInvariants :=
  ⟨State.resetWith_inv, State.resetWith_inv _, fun _ _ => State.resetWith_engineInv⟩

end Sys2Proof.Machine
end

section
/-! SUPPORT. Once, everything a step of the SEQUENCER for a command can do: `ExecStep`, one constructor per outcome,
with its guards and its next state. A proof about every step of every command is a case split on it. -/

namespace Sys2Proof.Machine

/-- What the command `i` can do in one step at `s`. `as`, `n` are the answers and draws left by a bus wait and `st`
is LAST_BUS_STATUS after it, which a timeout leaves as it was. -/
inductive ExecStep (s : State) : Instr → State → Prop
  /-- A false precondition (R110). -/
  | usage {i} (hp : s.pos = .first) (hpre : precondition i s = false) :
      ExecStep s i (s.finish .usage)
  /-- The end of a command that waited for the bus (R107). -/
  | ends {i r} (hp : s.pos = .ending r) (hw : waitsOnBus i = true) : ExecStep s i (s.finish r)
  /-- No answer at this draw of an unbounded wait (R53). -/
  | unanswered {i} (hw : waitsOnBus i = true) (hb : s.params.waitBound = 0) :
      ExecStep s i s.nextAnswer.2
  /-- CFG (R73). -/
  | cfg {b} (hp : s.pos = .first) (hpre : precondition (.cfg b) s = true) :
      ExecStep s (.cfg b) (State.finish .ok { s with busDiv := b, configured := true })
  /-- STOP and CLOSE (R75, R85). -/
  | stops {i} (hi : i = .stop ∨ i = .close) (hp : s.pos = .first)
      (hpre : precondition i s = true) : ExecStep s i (s.stop.finish .ok)
  /-- DECODE of a frame with its busy bit set (R94). -/
  | decodesBusy (hp : s.pos = .first) (hf : s.frameBusy = true) :
      ExecStep s .decode (State.finish .sensorBusy { s with decValid := false })
  /-- DECODE of a measured frame (R94). -/
  | decodes (hp : s.pos = .first) (hf : s.frameBusy = false) :
      ExecStep s .decode (s.decodeFrame.finish .ok)
  /-- FPUSH (R101). -/
  | pushes (hp : s.pos = .first) (hpre : precondition .fpush s = true) :
      ExecStep s .fpush ((s.push s.rawH s.rawT).finish .ok)
  /-- START: the wait, answered or timed out (R74). -/
  | start {as n st r} (hp : s.pos = .first) (hpre : precondition .start s = true)
      (hr : r = .ok ∨ r = .busTimeout ∧ st = s.lastBusStatus) :
      ExecStep s .start
        (State.goto (.ending r) { s.afterEvent s.startEvent as n with lastBusStatus := st })
  /-- WRB: the wait, answered or timed out (R76). -/
  | wrb {b as n st r} (hp : s.pos = .first) (hpre : precondition (.wrb b) s = true)
      (hr : r = .ok ∨ r = .busTimeout ∧ st = s.lastBusStatus) :
      ExecStep s (.wrb b) (State.goto (.ending r) { s.afterEvent (.tx b) as n with lastBusStatus := st })
  /-- RDB, answered (R77). -/
  | rdb {a as n st d} (hp : s.pos = .first) (hpre : precondition (.rdb a) s = true) :
      ExecStep s (.rdb a) (State.goto (.ending .ok)
        { s.afterEvent (.rx a) as n with lastBusStatus := st, buf := s.buf.set 0 d })
  /-- RDB, timed out (R77). -/
  | rdbTimeout {a as n} (hp : s.pos = .first) (hpre : precondition (.rdb a) s = true) :
      ExecStep s (.rdb a) (State.goto (.ending .busTimeout) (s.afterEvent (.rx a) as n))
  /-- OPEN: the expected status after its S or Sr (R79). -/
  | openStart {a7 d as n} (hp : s.pos = .first) (hpre : precondition (.openTxn a7 d) s = true) :
      ExecStep s (.openTxn a7 d) (State.goto .address
        { s.afterEvent s.startEvent as n with lastBusStatus := s.startExpected })
  /-- OPEN: the address acknowledged (R79). -/
  | openAddress {a7 d as n} (hp : s.pos = .address) :
      ExecStep s (.openTxn a7 d) (State.goto (.ending .ok)
        { s.afterEvent (.tx (addressByte a7 d)) as n with
          lastBusStatus := addrAckCode s.params.st d, txnOpen := true, txnDir := d })
  /-- WRSEQ: a byte acknowledged (R80). -/
  | wrseqByte {c k as n} (hc : countOk c = true)
      (hp : s.pos = .data k ∨ s.pos = .first ∧ precondition (.wrseq c) s = true ∧ k = 0) :
      ExecStep s (.wrseq c) (State.goto (afterByte c k)
        { s.afterEvent (.tx s.buf[k]) as n with lastBusStatus := s.params.st.txdAck })
  /-- RDSEQ: a byte received with the expected status (R81). -/
  | rdseqByte {c k as n d} (hc : countOk c = true)
      (hp : s.pos = .data k ∨ s.pos = .first ∧ precondition (.rdseq c) s = true ∧ k = 0) :
      ExecStep s (.rdseq c) (State.goto (afterByte c k)
        { s.afterEvent (.rx (!isLast c.toNat k.val)) as n with
          lastBusStatus := s.rxExpected (!isLast c.toNat k.val), buf := s.buf.set k d })
  /-- A command of the Transaction Engine: an unexpected status or a timeout (R78 to R81). -/
  | fails {i r e as n st} (hi : i ≠ .measure) (hj : judgesStatus i = true)
      (hr : posBelongs i (.ending r) = true) (he : e = waitEvent i s)
      (hst : r = .busTimeout → st = s.lastBusStatus) : ExecStep s i
        (State.raised r (State.fail { s.afterEvent e as n with lastBusStatus := st }))
  /-- MEASURE: the expected status after the first S or Sr of a cycle (R95). -/
  | trigStart {rt as n}
      (hp : s.pos = .first ∧ precondition .measure s = true ∧ rt = 0 ∨
        s.pos = .trigStart ∧ rt = s.retries) :
      ExecStep s .measure (State.goto .trigAddress { s.afterEvent s.startEvent as n with
        lastBusStatus := s.startExpected, retries := rt, seqState := .triggering })
  /-- MEASURE: the address of the trigger write acknowledged (R95). -/
  | trigAddress {as n} (hp : s.pos = .trigAddress) :
      ExecStep s .measure (State.goto (.trigData 0)
        { s.afterEvent (.tx (addressByte Config.sensorAddr .write)) as n with
          lastBusStatus := s.params.st.slawAck, txnOpen := true, txnDir := .write })
  /-- MEASURE: a trigger byte but the last acknowledged (R95). -/
  | trigByte {k as n} (hp : s.pos = .trigData k) (hk : k.val < 2) :
      ExecStep s .measure (State.goto (.trigData (k + 1))
        { s.afterEvent (.tx Config.trigger[k]) as n with lastBusStatus := s.params.st.txdAck })
  /-- MEASURE: the last trigger byte acknowledged (R95). -/
  | triggered {as n} (hp : s.pos = .trigData 2) :
      ExecStep s .measure (State.measureTriggered
        { s.afterEvent (.tx Config.trigger[2]) as n with lastBusStatus := s.params.st.txdAck })
  /-- MEASURE: the settling delay (R117). -/
  | settles (hp : s.pos = .settling) :
      ExecStep s .measure (State.goto .readStart { s.settle with seqState := .reading })
  /-- MEASURE: the expected status after the S of the frame read (R95). -/
  | readStart {as n} (hp : s.pos = .readStart) :
      ExecStep s .measure (State.goto .readAddress
        { s.afterEvent s.startEvent as n with lastBusStatus := s.startExpected })
  /-- MEASURE: the address of the frame read acknowledged (R95). -/
  | readAddress {as n} (hp : s.pos = .readAddress) :
      ExecStep s .measure (State.goto (.readData 0)
        { s.afterEvent (.tx (addressByte Config.sensorAddr .read)) as n with
          lastBusStatus := s.params.st.slarAck, txnOpen := true, txnDir := .read })
  /-- MEASURE: a byte of the frame but the last received (R95). -/
  | readByte {k as n d} (hp : s.pos = .readData k) (hk : k.val < 6) :
      ExecStep s .measure (State.goto (.readData (k + 1))
        { s.afterEvent (.rx true) as n with
          lastBusStatus := s.params.st.rxdAck, buf := s.buf.set k d })
  /-- MEASURE: the last byte of the frame received, and the Decoding state (R95, R96). -/
  | readLast {as n d} (hp : s.pos = .readData 6) :
      ExecStep s .measure (State.measureRead
        { s.afterEvent (.rx false) as n with
          lastBusStatus := s.params.st.rxdNack, buf := s.buf.set 6 d })
  /-- MEASURE: an unexpected status or a timeout (R95). -/
  | measureFails {r e rt x as n st} (hr : posBelongs .measure (.ending r) = true)
      (he : e = waitEvent .measure s) (hrt : rt = s.retries ∨ s.pos = .first ∧ rt = 0)
      (hst : r = .busTimeout → st = s.lastBusStatus) : ExecStep s .measure (State.measureErr r (State.fail
        { s.afterEvent e as n with lastBusStatus := st, retries := rt, seqState := x }))

variable {s t : State}

/-- A step that waits in `u`, whose parameters are those of `s`: the wait ends, or this draw has no answer (R53). -/
theorem State.stepOr_waited_cases {u : State} {e : BusEvent}
    {onDone : Byte → Byte → State → State} {onTimeout : State → State}
    (h : s.stepOr (u.waited e onDone onTimeout) = .next t) (hu : u.params = s.params) :
    u.waited e onDone onTimeout = some t ∨ (s.params.waitBound = 0 ∧ t = s.nextAnswer.2) := by
  refine (State.stepOr_cases h).imp_right fun ⟨hn, ht⟩ => ⟨?_, ht⟩
  by_contra hb
  obtain ⟨v, hv⟩ := State.waited_isSome (s := u) (e := e) (onDone := onDone)
    (onTimeout := onTimeout) (hu ▸ hb)
  simp [hv] at hn

/-- A false precondition ends the command with USAGE (R110). -/
theorem usage_step {i : Instr} (hp : s.pos = .first) (hpre : ¬ precondition i s = true) :
    ExecStep s i (s.finish .usage) :=
  .usage hp (Bool.not_eq_true _ ▸ hpre)

theorem execCfg_step {b : Byte} (h : execCfg b s = .next t) : ExecStep s (.cfg b) t := by
  unfold execCfg at h
  split at h
  next hp =>
    split at h <;> cases h
    next ha => exact .usage hp (by simp [precondition, ha])
    next ha => exact .cfg hp (by simp [precondition, ha])
  · cases h

theorem execStop_step (h : execStop s = .next t) : ExecStep s .stop t := by
  unfold execStop at h
  split at h
  next hp =>
    split at h <;> cases h
    · exact .stops (.inl rfl) hp ‹_›
    · exact usage_step hp ‹_›
  · cases h

theorem execClose_step (h : execClose s = .next t) : ExecStep s .close t := by
  unfold execClose at h
  split at h
  next hp =>
    split at h <;> cases h
    · exact .stops (.inr rfl) hp ‹_›
    · exact usage_step hp ‹_›
  · cases h

theorem execDecode_step (h : execDecode s = .next t) : ExecStep s .decode t := by
  unfold execDecode at h
  split at h
  next hp =>
    split at h <;> cases h
    next hf => exact .decodesBusy hp hf
    next hf => exact .decodes hp (Bool.not_eq_true _ ▸ hf)
  · cases h

theorem execFpush_step (h : execFpush s = .next t) : ExecStep s .fpush t := by
  unfold execFpush at h
  split at h
  next hp =>
    split at h <;> cases h
    · exact .pushes hp ‹_›
    · exact usage_step hp ‹_›
  · cases h

theorem execStart_step (h : execStart s = .next t) : ExecStep s .start t := by
  unfold execStart at h
  split at h
  next hp =>
    split at h
    next hpre =>
      obtain hw | ⟨hb, rfl⟩ := State.stepOr_waited_cases h rfl
      · obtain ⟨as, n, ⟨st, d, rfl⟩ | ⟨-, rfl⟩⟩ := State.linkWait_cases hw
        · exact .start hp hpre (.inl rfl)
        · exact .start hp hpre (.inr ⟨rfl, rfl⟩)
      · exact .unanswered rfl hb
    next hpre => cases h; exact usage_step hp hpre
  next r hp => cases h; exact .ends hp rfl
  · cases h

theorem execWrb_step {b : Byte} (h : execWrb b s = .next t) : ExecStep s (.wrb b) t := by
  unfold execWrb at h
  split at h
  next hp =>
    split at h
    next hpre =>
      obtain hw | ⟨hb, rfl⟩ := State.stepOr_waited_cases h rfl
      · obtain ⟨as, n, ⟨st, d, rfl⟩ | ⟨-, rfl⟩⟩ := State.linkWait_cases hw
        · exact .wrb hp hpre (.inl rfl)
        · exact .wrb hp hpre (.inr ⟨rfl, rfl⟩)
      · exact .unanswered rfl hb
    next hpre => cases h; exact usage_step hp hpre
  next r hp => cases h; exact .ends hp rfl
  · cases h

theorem execRdb_step {a : Bool} (h : execRdb a s = .next t) : ExecStep s (.rdb a) t := by
  unfold execRdb at h
  split at h
  next hp =>
    split at h
    next hpre =>
      obtain hw | ⟨hb, rfl⟩ := State.stepOr_waited_cases h rfl
      · obtain ⟨as, n, ⟨st, d, rfl⟩ | ⟨-, rfl⟩⟩ := State.linkWait_cases hw
        · exact .rdb hp hpre
        · exact .rdbTimeout hp hpre
      · exact .unanswered rfl hb
    next hpre => cases h; exact usage_step hp hpre
  next r hp => cases h; exact .ends hp rfl
  · cases h

theorem execOpenTxn_step {a7 : DeviceAddr} {d : Direction} (h : execOpenTxn a7 d s = .next t) :
    ExecStep s (.openTxn a7 d) t := by
  unfold execOpenTxn at h
  split at h
  next hp =>
    split at h
    next hpre =>
      have he : s.startEvent = waitEvent (.openTxn a7 d) s := by rw [waitEvent, hp]; rfl
      obtain hw | ⟨hb, rfl⟩ := State.stepOr_waited_cases h rfl
      · obtain ⟨as, n, ⟨st, rfl, rfl⟩ | ⟨st, -, rfl⟩ | ⟨-, rfl⟩⟩ := State.openStart_cases hw
        · exact .openStart hp hpre
        · exact .fails nofun rfl rfl he nofun
        · exact .fails nofun rfl rfl he (fun _ => rfl)
      · exact .unanswered rfl hb
    next hpre => cases h; exact usage_step hp hpre
  next hp =>
    have he : .tx (addressByte a7 d) = waitEvent (.openTxn a7 d) s := by rw [waitEvent, hp]; rfl
    obtain hw | ⟨hb, rfl⟩ := State.stepOr_waited_cases h rfl
    · obtain ⟨as, n, ⟨st, rfl, rfl⟩ | ⟨st, -, -, rfl⟩ | ⟨st, -, -, rfl⟩ | ⟨-, rfl⟩⟩ :=
        State.openAddress_cases hw
      · exact .openAddress hp
      · exact .fails nofun rfl rfl he nofun
      · exact .fails nofun rfl rfl he nofun
      · exact .fails nofun rfl rfl he (fun _ => rfl)
    · exact .unanswered rfl hb
  next r hp => cases h; exact .ends hp rfl
  · cases h

/-- WRSEQ at a byte of its loop. -/
theorem wrseqByte_step {c : BitVec 4} {k : Fin 8} (hc : countOk c = true)
    (h : s.stepOr (s.wrseqByte c k) = .next t)
    (hp : s.pos = .data k ∨ s.pos = .first ∧ precondition (.wrseq c) s = true ∧ k = 0) :
    ExecStep s (.wrseq c) t := by
  unfold State.wrseqByte at h
  have he : .tx s.buf[k] = waitEvent (.wrseq c) s := by
    obtain hp | ⟨hp, -, rfl⟩ := hp <;> rw [waitEvent, hp]; rfl
  obtain hw | ⟨hb, rfl⟩ := State.stepOr_waited_cases h rfl
  · obtain ⟨as, n, ⟨st, rfl, rfl⟩ | ⟨st, -, rfl⟩ | ⟨-, rfl⟩⟩ := State.writeByte_cases hw
    · exact .wrseqByte hc hp
    · exact .fails nofun rfl rfl he nofun
    · exact .fails nofun rfl rfl he (fun _ => rfl)
  · exact .unanswered rfl hb

theorem execWrseq_step {c : BitVec 4} (h : execWrseq c s = .next t) : ExecStep s (.wrseq c) t := by
  unfold execWrseq at h
  split at h
  next hc =>
    split at h
    next hp =>
      split at h
      next hpre => exact wrseqByte_step hc h (.inr ⟨hp, hpre, rfl⟩)
      next hpre => cases h; exact usage_step hp hpre
    next k hp => exact wrseqByte_step hc h (.inl hp)
    next r hp => cases h; exact .ends hp rfl
    · cases h
  · cases h

/-- Every byte but the last is answered with ACK (R81). -/
theorem not_isLast (n i : Nat) : (!isLast n i) = decide (i + 1 < n) := by
  rw [isLast, ← decide_not, decide_eq_decide, Nat.not_le]

/-- RDSEQ at a byte of its loop. -/
theorem rdseqByte_step {c : BitVec 4} {k : Fin 8} (hc : countOk c = true)
    (h : s.stepOr (s.rdseqByte c k) = .next t)
    (hp : s.pos = .data k ∨ s.pos = .first ∧ precondition (.rdseq c) s = true ∧ k = 0) :
    ExecStep s (.rdseq c) t := by
  unfold State.rdseqByte at h
  have he : .rx (!isLast c.toNat k.val) = waitEvent (.rdseq c) s := by
    obtain hp | ⟨hp, -, rfl⟩ := hp <;> rw [waitEvent, hp, not_isLast]; rfl
  obtain hw | ⟨hb, rfl⟩ := State.stepOr_waited_cases h rfl
  · obtain ⟨as, n, ⟨st, d, rfl, rfl⟩ | ⟨st, -, rfl⟩ | ⟨-, rfl⟩⟩ := State.readByte_cases hw
    · exact .rdseqByte hc hp
    · exact .fails nofun rfl rfl he nofun
    · exact .fails nofun rfl rfl he (fun _ => rfl)
  · exact .unanswered rfl hb

theorem execRdseq_step {c : BitVec 4} (h : execRdseq c s = .next t) : ExecStep s (.rdseq c) t := by
  unfold execRdseq at h
  split at h
  next hc =>
    split at h
    next hp =>
      split at h
      next hpre => exact rdseqByte_step hc h (.inr ⟨hp, hpre, rfl⟩)
      next hpre => cases h; exact usage_step hp hpre
    next k hp => exact rdseqByte_step hc h (.inl hp)
    next r hp => cases h; exact .ends hp rfl
    · cases h
  · cases h

/-- MEASURE at the top of its loop, `rt` the RETRIES it has there. -/
theorem measureTrigger_step {rt : BitVec 4}
    (h : s.stepOr (State.measureTrigger { s with retries := rt }) = .next t)
    (hp : s.pos = .first ∧ precondition .measure s = true ∧ rt = 0 ∨
      s.pos = .trigStart ∧ rt = s.retries) : ExecStep s .measure t := by
  unfold State.measureTrigger at h
  have he : s.startEvent = waitEvent .measure s := by
    obtain ⟨hp, -⟩ | ⟨hp, -⟩ := hp <;> rw [waitEvent, measureEvent, hp] <;> rfl
  have hrt : rt = s.retries ∨ s.pos = .first ∧ rt = 0 := by
    obtain ⟨hp, -, rfl⟩ | ⟨-, rfl⟩ := hp
    · exact .inr ⟨hp, rfl⟩
    · exact .inl rfl
  obtain hw | ⟨hb, rfl⟩ := State.stepOr_waited_cases h rfl
  · obtain ⟨as, n, ⟨st, rfl, rfl⟩ | ⟨st, -, rfl⟩ | ⟨-, rfl⟩⟩ := State.openStart_cases hw
    · exact .trigStart hp
    · exact .measureFails rfl he hrt nofun
    · exact .measureFails rfl he hrt (fun _ => rfl)
  · exact .unanswered rfl hb

/-- MEASURE at a sent byte, `ok` what it does after it. -/
theorem measureWrite_step {b : Byte} {ok : State → State}
    (h : s.stepOr (s.writeByte b ok State.measureErr) = .next t)
    (he : .tx b = waitEvent .measure s)
    (hok : ∀ as n, ExecStep s .measure (ok { s.afterEvent (.tx b) as n with
      lastBusStatus := s.params.st.txdAck })) : ExecStep s .measure t := by
  obtain hw | ⟨hb, rfl⟩ := State.stepOr_waited_cases h rfl
  · obtain ⟨as, n, ⟨st, rfl, rfl⟩ | ⟨st, -, rfl⟩ | ⟨-, rfl⟩⟩ := State.writeByte_cases hw
    · exact hok as n
    · exact .measureFails rfl he (.inl rfl) nofun
    · exact .measureFails rfl he (.inl rfl) (fun _ => rfl)
  · exact .unanswered rfl hb

/-- MEASURE at a trigger byte. -/
theorem measureTrigByte_step {k : Fin 3} (hp : s.pos = .trigData k)
    (h : s.stepOr (s.measureTrigByte k) = .next t) : ExecStep s .measure t := by
  have he : .tx Config.trigger[k] = waitEvent .measure s := by
    rw [waitEvent, measureEvent, hp]
    match k with
    | 0 | 1 | 2 => rfl
  match k, hp, he, h with
  | 0, hp, he, h => exact measureWrite_step h he fun _ _ => .trigByte hp (by decide)
  | 1, hp, he, h => exact measureWrite_step h he fun _ _ => .trigByte hp (by decide)
  | 2, hp, he, h => exact measureWrite_step h he fun _ _ => .triggered hp

/-- MEASURE at a received byte, `ok` what it does after it. -/
theorem measureRead_step {i : Fin 8} {ack : Bool} {ok : State → State}
    (h : s.stepOr (s.readByte i ack ok State.measureErr) = .next t)
    (he : .rx ack = waitEvent .measure s)
    (hok : ∀ as n d, ExecStep s .measure (ok { s.afterEvent (.rx ack) as n with
      lastBusStatus := s.rxExpected ack, buf := s.buf.set i d })) : ExecStep s .measure t := by
  obtain hw | ⟨hb, rfl⟩ := State.stepOr_waited_cases h rfl
  · obtain ⟨as, n, ⟨st, d, rfl, rfl⟩ | ⟨st, -, rfl⟩ | ⟨-, rfl⟩⟩ := State.readByte_cases hw
    · exact hok as n d
    · exact .measureFails rfl he (.inl rfl) nofun
    · exact .measureFails rfl he (.inl rfl) (fun _ => rfl)
  · exact .unanswered rfl hb

/-- Every frame byte but the last is answered with ACK (R81). -/
theorem State.measureReadByte_of_lt {k : Fin 7} (hk : k.val < 6) :
    s.measureReadByte k = s.readByte (k.castLE (by decide)) true
      (State.goto (.readData (k + 1))) State.measureErr := by
  have hl : isLast Config.frameLen k.val = false :=
    decide_eq_false (by unfold Config.frameLen; omega)
  simp only [State.measureReadByte, hl]
  rfl

/-- MEASURE at a frame byte. -/
theorem measureReadByte_step {k : Fin 7} (hp : s.pos = .readData k)
    (h : s.stepOr (s.measureReadByte k) = .next t) : ExecStep s .measure t := by
  by_cases hk : k.val < 6
  · rw [State.measureReadByte_of_lt hk] at h
    have he : .rx true = waitEvent .measure s := by
      rw [waitEvent, measureEvent, hp, ← decide_eq_true hk]
    exact measureRead_step h he fun _ _ _ => .readByte hp hk
  · obtain rfl : k = 6 := Fin.ext (by omega)
    have he : .rx false = waitEvent .measure s := by rw [waitEvent, measureEvent, hp]; rfl
    exact measureRead_step (ack := false) (ok := State.measureRead) h he fun _ _ _ => .readLast hp

/-- MEASURE at the start of the frame read. -/
theorem readStart_step (hp : s.pos = .readStart)
    (h : s.stepOr (s.openStart (State.goto .readAddress) State.measureErr) = .next t) :
    ExecStep s .measure t := by
  have he : s.startEvent = waitEvent .measure s := by rw [waitEvent, measureEvent, hp]; rfl
  obtain hw | ⟨hb, rfl⟩ := State.stepOr_waited_cases h rfl
  · obtain ⟨as, n, ⟨st, rfl, rfl⟩ | ⟨st, -, rfl⟩ | ⟨-, rfl⟩⟩ := State.openStart_cases hw
    · exact .readStart hp
    · exact .measureFails rfl he (.inl rfl) nofun
    · exact .measureFails rfl he (.inl rfl) (fun _ => rfl)
  · exact .unanswered rfl hb

/-- MEASURE at an address phase, `p` the position after it. -/
theorem measureAddress_step {d : Direction} {p : SeqPos}
    (h : s.stepOr (s.openAddress Config.sensorAddr d (State.goto p) State.measureErr) = .next t)
    (he : .tx (addressByte Config.sensorAddr d) = waitEvent .measure s)
    (hok : ∀ as n, ExecStep s .measure (State.goto p
      { s.afterEvent (.tx (addressByte Config.sensorAddr d)) as n with
        lastBusStatus := addrAckCode s.params.st d, txnOpen := true, txnDir := d })) :
    ExecStep s .measure t := by
  obtain hw | ⟨hb, rfl⟩ := State.stepOr_waited_cases h rfl
  · obtain ⟨as, n, ⟨st, rfl, rfl⟩ | ⟨st, -, -, rfl⟩ | ⟨st, -, -, rfl⟩ | ⟨-, rfl⟩⟩ :=
      State.openAddress_cases hw
    · exact hok as n
    · exact .measureFails rfl he (.inl rfl) nofun
    · exact .measureFails rfl he (.inl rfl) nofun
    · exact .measureFails rfl he (.inl rfl) (fun _ => rfl)
  · exact .unanswered rfl hb

theorem execMeasure_step (h : execMeasure s = .next t) : ExecStep s .measure t := by
  unfold execMeasure at h
  split at h
  next hp =>
    split at h
    next hpre => exact measureTrigger_step h (.inl ⟨hp, hpre, rfl⟩)
    next hpre => cases h; exact usage_step hp hpre
  next hp => exact measureTrigger_step h (.inr ⟨hp, rfl⟩)
  next hp => exact measureAddress_step h (by rw [waitEvent, measureEvent, hp]; rfl) fun _ _ => .trigAddress hp
  next k hp => exact measureTrigByte_step hp h
  next hp => cases h; exact .settles hp
  next hp => exact readStart_step hp h
  next hp => exact measureAddress_step h (by rw [waitEvent, measureEvent, hp]; rfl) fun _ _ => .readAddress hp
  next k hp => exact measureReadByte_step hp h
  next r hp => cases h; exact .ends hp rfl
  · cases h

/-- Everything a step of the SEQUENCER for a command can do. -/
theorem execStep_of_exec {i : Instr} (h : exec i s = .next t) : ExecStep s i t := by
  cases i with
  | cfg b => exact execCfg_step h
  | start => exact execStart_step h
  | stop => exact execStop_step h
  | wrb b => exact execWrb_step h
  | rdb ack => exact execRdb_step h
  | openTxn a7 d => exact execOpenTxn_step h
  | wrseq n => exact execWrseq_step h
  | rdseq n => exact execRdseq_step h
  | close => exact execClose_step h
  | decode => exact execDecode_step h
  | fpush => exact execFpush_step h
  | measure => exact execMeasure_step h

end Sys2Proof.Machine
end

section
/-! SUPPORT. What the commands leave unchanged (R73 to R101, "State written"), by the cases of `ExecStep`. -/

namespace Sys2Proof.Machine

variable {s t : State}

/-! ### The Decoding state of MEASURE -/

/-- The Decoding state writes only the decoded values, the window, RETRIES, SEQ_STATE and the position (R96). -/
theorem State.measureDecode_frame (s : State) : s.measureDecode = { s with
    rawH := s.measureDecode.rawH, rawT := s.measureDecode.rawT, decValid := s.measureDecode.decValid
    winH := s.measureDecode.winH, winT := s.measureDecode.winT
    wrIdx := s.measureDecode.wrIdx, count := s.measureDecode.count
    retries := s.measureDecode.retries, seqState := s.measureDecode.seqState
    pos := s.measureDecode.pos } := by
  obtain ⟨-, -, h⟩ | ⟨-, -, h⟩ | ⟨-, h⟩ := s.measureDecode_cases
  · rw [h]
  · rw [h]
  · rw [h]; rfl

@[simp] theorem State.measureDecode_params (s : State) : s.measureDecode.params = s.params := by
  rw [State.measureDecode_frame]
@[simp] theorem State.measureDecode_cmdLatch (s : State) : s.measureDecode.cmdLatch = s.cmdLatch := by
  rw [State.measureDecode_frame]
@[simp] theorem State.measureDecode_busy (s : State) : s.measureDecode.busy = s.busy := by
  rw [State.measureDecode_frame]
@[simp] theorem State.measureDecode_configured (s : State) :
    s.measureDecode.configured = s.configured := by
  rw [State.measureDecode_frame]
@[simp] theorem State.measureDecode_err (s : State) : s.measureDecode.err = s.err := by
  rw [State.measureDecode_frame]
@[simp] theorem State.measureDecode_overrun (s : State) : s.measureDecode.overrun = s.overrun := by
  rw [State.measureDecode_frame]
@[simp] theorem State.measureDecode_busDiv (s : State) : s.measureDecode.busDiv = s.busDiv := by
  rw [State.measureDecode_frame]
@[simp] theorem State.measureDecode_buf (s : State) : s.measureDecode.buf = s.buf := by
  rw [State.measureDecode_frame]
@[simp] theorem State.measureDecode_history (s : State) : s.measureDecode.history = s.history := by
  rw [State.measureDecode_frame]
@[simp] theorem State.measureDecode_agenda (s : State) : s.measureDecode.agenda = s.agenda := by
  rw [State.measureDecode_frame]
@[simp] theorem State.measureDecode_hostReads (s : State) :
    s.measureDecode.hostReads = s.hostReads := by
  rw [State.measureDecode_frame]

/-! ### What no command writes -/

/-- No command writes the parameters or what stands between the block and the HOST (R37, R46, R57). -/
theorem ExecStep.interface_unchanged {i : Instr} (h : ExecStep s i t) :
    t.params = s.params ∧ t.cmdLatch = s.cmdLatch ∧ t.overrun = s.overrun ∧
    t.agenda = s.agenda ∧ t.hostReads = s.hostReads := by
  cases h <;> simp [State.afterEvent, State.raised, State.measureErr, State.measureTriggered,
    State.measureRead]

/-- A command only appends to H (R51). -/
theorem ExecStep.history_grows {i : Instr} (h : ExecStep s i t) : ∃ l, t.history = s.history ++ l := by
  cases h <;> simp [State.afterEvent, State.raised, State.measureErr, State.measureTriggered,
    State.measureRead, State.fail_history]

/-- Settles O50: the frame and the growth of H hold of each outcome of a step. -/
theorem noCommandTouchesTheInterface : Obligations.NoCommandTouchesTheInterface := by
  intro i s t h
  have hs := execStep_of_exec h
  obtain ⟨hp, hc, ho, ha, hr⟩ := hs.interface_unchanged
  exact ⟨hp, hc, ho, ha, hr, hs.history_grows⟩


/-- A command that judges statuses waits for them. -/
theorem waitsOnBus_of_judgesStatus {i : Instr} (h : judgesStatus i = true) :
    waitsOnBus i = true := by
  cases i <;> simp_all [judgesStatus, waitsOnBus]

section
variable {i : Instr} (h : ExecStep s i t)
include h

/-- BUS_DIV and CONFIGURED are CFG's (R73). -/
theorem ExecStep.config_unchanged (hi : ∀ b, i ≠ .cfg b) :
    t.busDiv = s.busDiv ∧ t.configured = s.configured := by
  cases h with
  | cfg => exact absurd rfl (hi _)
  | _ => simp [State.afterEvent, State.raised, State.measureErr, State.measureTriggered,
      State.measureRead]

/-- RAW_H, RAW_T and DEC_VALID are DECODE's and MEASURE's (R94, R95). -/
theorem ExecStep.decoded_unchanged (hd : i ≠ .decode) (hm : i ≠ .measure) :
    t.rawH = s.rawH ∧ t.rawT = s.rawT ∧ t.decValid = s.decValid := by
  cases h <;> simp_all [State.afterEvent, State.raised]

/-- The window is FPUSH's and MEASURE's (R101, R95). -/
theorem ExecStep.window_unchanged (hf : i ≠ .fpush) (hm : i ≠ .measure) :
    t.winH = s.winH ∧ t.winT = s.winT ∧ t.wrIdx = s.wrIdx ∧ t.count = s.count := by
  cases h <;> simp_all [State.afterEvent, State.raised]

/-- SEQ_STATE and RETRIES are MEASURE's (R28, R30). -/
theorem ExecStep.cycle_unchanged (hm : i ≠ .measure) :
    t.seqState = s.seqState ∧ t.retries = s.retries := by
  cases h <;> simp_all [State.afterEvent, State.raised]

/-- LAST_BUS_STATUS and the bus's answers are the waiting commands' (R29, R52). -/
theorem ExecStep.lastBusStatus_unchanged (hw : waitsOnBus i = false) :
    t.lastBusStatus = s.lastBusStatus ∧ t.answers = s.answers ∧ t.draws = s.draws := by
  cases h with
  | fails _ hj => simp [waitsOnBus_of_judgesStatus hj] at hw
  | ends _ hw' | unanswered hw' => simp [hw'] at hw
  | start | wrb | rdb | rdbTimeout | openStart | openAddress | wrseqByte | rdseqByte | trigStart
  | trigAddress | trigByte | triggered | settles | readStart | readAddress | readByte | readLast
  | measureFails => cases hw
  | usage | cfg | stops | decodesBusy | decodes | pushes => exact ⟨rfl, rfl, rfl⟩

/-- TXN_DIR is OPEN's and MEASURE's (R23). -/
theorem ExecStep.txnDir_unchanged (hm : i ≠ .measure) (ho : ∀ a d, i ≠ .openTxn a d) :
    t.txnDir = s.txnDir := by
  cases h with
  | openAddress => exact absurd rfl (ho _ _)
  | _ => simp_all [State.afterEvent, State.raised]

/-- TXN_OPEN is STOP's, CLOSE's and the commands' that judge statuses (R71, R78, R79). -/
theorem ExecStep.txnOpen_unchanged (hs : i ≠ .stop) (hc : i ≠ .close)
    (hj : judgesStatus i = false) : t.txnOpen = s.txnOpen := by
  cases h with
  | stops hi => exact (hi.elim hs hc).elim
  | _ => simp_all [State.afterEvent, judgesStatus]

/-- A sent or received byte is no S, Sr or P, so WRB and RDB leave BUS_ACTIVE (R22). -/
theorem ExecStep.busActive_unchanged
    (hi : (∃ b, i = .cfg b) ∨ (∃ b, i = .wrb b) ∨ (∃ a, i = .rdb a) ∨ i = .decode ∨ i = .fpush) :
    t.busActive = s.busActive := by
  obtain ⟨b, rfl⟩ | ⟨b, rfl⟩ | ⟨a, rfl⟩ | rfl | rfl := hi <;> cases h
  all_goals simp_all [State.afterEvent, judgesStatus, BusEvent.busActiveAfter]

/-- CFG, DECODE and FPUSH emit no event (R51). -/
theorem ExecStep.history_unchanged (hi : (∃ b, i = .cfg b) ∨ i = .decode ∨ i = .fpush) :
    t.history = s.history := by
  obtain ⟨b, rfl⟩ | rfl | rfl := hi <;> cases h
  all_goals simp_all [judgesStatus]

end

/-- Settles O51: one clause per register, each by the outcomes of a step. -/
theorem commandsWriteOnlyTheirRegisters : Obligations.CommandsWriteOnlyTheirRegisters := by
  intro i s t h
  have hs := execStep_of_exec h
  exact ⟨hs.config_unchanged, hs.decoded_unchanged, hs.window_unchanged, hs.cycle_unchanged,
    hs.lastBusStatus_unchanged, hs.txnDir_unchanged, hs.txnOpen_unchanged,
    hs.busActive_unchanged, hs.history_unchanged⟩

/-! ### BUF -/

/-- Storing a byte leaves the others. -/
theorem getElem_set_of_ne {b : Vector Byte 8} {j k : Fin 8} {d : Byte} (h : j.val ≠ k.val) :
    (b.set j d)[k] = b[k] := Vector.getElem_set_ne _ _ h

/-- A byte outside a command's own indexes is unchanged (R32, R128). -/
theorem ExecStep.buf_unchanged {i : Instr} {k : Fin 8} (h : ExecStep s i t)
    (hp : posBelongs i s.pos = true) (hrdb : ∀ a, i = .rdb a → 0 < k.val)
    (hrdseq : ∀ n, i = .rdseq n → n.toNat ≤ k.val) (hm : i = .measure → k.val = 7) :
    t.buf[k] = s.buf[k] := by
  cases h with
  | rdb => exact getElem_set_of_ne (j := 0) (hrdb _ rfl).ne
  | @rdseqByte c j as n d hc hj =>
    have hn := hrdseq _ rfl
    have hjn : j.val < c.toNat := by
      obtain hj | ⟨-, -, rfl⟩ := hj
      · simpa [hj, posBelongs] using hp
      · exact (of_decide_eq_true hc).1
    exact getElem_set_of_ne (by omega)
  | @readByte j as n d _ hj =>
    have hk := hm rfl
    exact getElem_set_of_ne (j := j.castLE (by decide)) (by simp; omega)
  | readLast =>
    have hk := hm rfl
    simpa [State.measureRead, State.afterEvent] using getElem_set_of_ne (j := 6) (by omega)
  | _ => simp [State.afterEvent, State.raised, State.measureErr, State.measureTriggered]

/-- Settles O52: the outcomes that write BUF write a byte at the command's own index. -/
theorem commandsWriteOnlyTheirBufferBytes : Obligations.CommandsWriteOnlyTheirBufferBytes :=
  fun _ _ _ _ hp h => (execStep_of_exec h).buf_unchanged hp

/-! ### ERR and OVERRUN -/

/-- The results that set ERR (R25). -/
theorem Result.setsErr_iff (r : Result) : r.setsErr = true ↔ r = .usage ∨ r = .illegal := by
  cases r <;> decide

/-- A step of a command leaves ERR and BUSY, or ends the command and takes its RESULT into ERR. -/
theorem ExecStep.err_cases {i : Instr} (h : ExecStep s i t) :
    (t.err = s.err ∧ t.busy = s.busy) ∨
      (t.busy = false ∧ t.err = (s.err || t.result.setsErr)) := by
  cases h with
  | usage | ends | cfg | stops | decodesBusy | decodes | pushes => exact .inr ⟨rfl, rfl⟩
  | _ =>
    exact .inl (by simp [State.afterEvent, State.raised, State.measureErr,
      State.measureTriggered, State.measureRead])

/-- So does a step of the SEQUENCER, an illegal word's ILLEGAL included (R66). -/
theorem sequencerStep_err_cases (h : sequencerStep s = .next t) :
    (t.err = s.err ∧ t.busy = s.busy) ∨
      (s.busy = true ∧ t.busy = false ∧ t.err = (s.err || t.result.setsErr)) := by
  obtain ⟨-, rfl⟩ | ⟨hb, i, -, hi⟩ | ⟨hb, -, rfl⟩ := sequencerStep_cases h
  · exact .inl ⟨rfl, rfl⟩
  · exact (execStep_of_exec hi).err_cases.imp_right fun he => ⟨hb, he⟩
  · exact .inr ⟨hb, rfl, rfl⟩

/-- The SEQUENCER leaves OVERRUN (R26). -/
theorem sequencerStep_overrun (h : sequencerStep s = .next t) : t.overrun = s.overrun := by
  obtain ⟨-, rfl⟩ | ⟨-, i, -, hi⟩ | ⟨-, -, rfl⟩ := sequencerStep_cases h
  · rfl
  · obtain ⟨-, -, ho, -, -⟩ := (execStep_of_exec hi).interface_unchanged
    exact ho
  · rfl

/-- A HOST read changes no flag (R43). -/
theorem State.hostRead_flags (r : Reg) (s : State) :
    (s.hostRead r).err = s.err ∧ (s.hostRead r).busy = s.busy ∧
      (s.hostRead r).overrun = s.overrun := by
  unfold State.hostRead
  split <;> exact ⟨rfl, rfl, rfl⟩

/-- A HOST write leaves ERR and ends no command. -/
theorem State.hostWrite_err (r : Reg) (v : Word) (s : State) :
    (s.hostWrite r v).err = s.err ∧ (s.busy = true → (s.hostWrite r v).busy = true) := by
  cases r <;> cases hb : s.busy <;>
    simp [State.hostWrite, hb, State.writeBuf0, State.writeBuf1]

/-- OVERRUN after a HOST write (R46). -/
theorem State.hostWrite_overrun (r : Reg) (v : Word) (s : State) :
    (s.hostWrite r v).overrun = true ↔
      s.overrun = true ∨ (s.busy = true ∧ (r = .cmd ∨ r = .buf0 ∨ r = .buf1)) := by
  cases r <;> cases hb : s.busy <;>
    simp [State.hostWrite, hb, State.writeBuf0, State.writeBuf1]

end Sys2Proof.Machine
end

section
/-! SUPPORT. The sticky flags over every step (R25, R26), and that no step faults under the invariant (R38). -/

namespace Sys2Proof.Machine

variable {s t : State}

/-! ### ERR and OVERRUN -/

/-- What a step does to ERR and BUSY: the reset input clears both, the end of a command takes its RESULT into ERR,
and every other step leaves ERR and does not end a command. -/
theorem step_err_cases (h : step s = .next t) :
    ((∃ rest, s.agenda = .reset :: rest) ∧ t.err = false ∧ t.result = .none) ∨
    (t.err = s.err ∧ (s.busy = true → t.busy = true)) ∨
    (s.busy = true ∧ t.busy = false ∧ t.err = (s.err || t.result.setsErr)) := by
  obtain ⟨-, hq⟩ | ⟨rest, -, hq⟩ | ⟨rest, -, rfl⟩ | ⟨rest, ha, rfl⟩ | ⟨a, rest, -, hh⟩ := step_cases h
  · exact .inr ((sequencerStep_err_cases hq).imp_left fun ⟨he, hb⟩ => ⟨he, hb.trans⟩)
  · exact .inr ((sequencerStep_err_cases hq).imp_left fun ⟨he, hb⟩ => ⟨he, hb.trans⟩)
  · exact .inr (.inl (by rw [State.waitPass_eq]; exact ⟨rfl, id⟩))
  · exact .inl ⟨⟨rest, ha⟩, rfl, rfl⟩
  · obtain ⟨addr, width, r, -, -, rfl⟩ | ⟨addr, width, v, r, -, -, rfl⟩ := hostStep_cases hh
    · obtain ⟨he, hb, -⟩ := State.hostRead_flags r { s with agenda := rest }
      exact .inr (.inl ⟨he, hb.trans⟩)
    · exact .inr (.inl (State.hostWrite_err r v _))

/-- The next turn is a HOST write that R46 drops. -/
def State.writeDropped (s : State) : Prop :=
  s.busy = true ∧ ∃ off v rest, (off = 0x00 ∨ off = 0x0C ∨ off = 0x10) ∧
    s.agenda = .host (.write (s.params.pBase + off) 4 v) :: rest

/-- Only a HOST write is dropped. -/
theorem State.not_writeDropped_of_agenda {s : State}
    (h : ∀ addr v rest, s.agenda ≠ .host (.write addr 4 v) :: rest) : ¬ s.writeDropped :=
  fun ⟨_, _, v, rest, _, ha⟩ => h _ v rest ha

/-- The offsets of CMD, BUF0 and BUF1 (R17). -/
theorem regAt_writable (off : Nat) :
    (regAt off = .cmd ∨ regAt off = .buf0 ∨ regAt off = .buf1) ↔
      (off = 0x00 ∨ off = 0x0C ∨ off = 0x10) := by
  unfold regAt
  split <;> simp_all

/-- A step other than the reset input sets OVERRUN exactly for a dropped write (R26, R46). -/
theorem step_overrun (h : step s = .next t) (hr : ∀ rest, s.agenda ≠ .reset :: rest) :
    t.overrun = true ↔ s.overrun = true ∨ s.writeDropped := by
  have keeps (hd : ¬ s.writeDropped) (ht : t.overrun = s.overrun) :
      t.overrun = true ↔ s.overrun = true ∨ s.writeDropped := by rw [ht, or_iff_left hd]
  obtain ⟨ha, hq⟩ | ⟨rest, ha, hq⟩ | ⟨rest, ha, rfl⟩ | ⟨rest, ha, -⟩ | ⟨a, rest, ha, hh⟩ := step_cases h
  · exact keeps (State.not_writeDropped_of_agenda (by simp [ha])) (sequencerStep_overrun hq)
  · exact keeps (State.not_writeDropped_of_agenda (by simp [ha]))
      ((sequencerStep_overrun hq).trans rfl)
  · exact keeps (State.not_writeDropped_of_agenda (by simp [ha])) (by rw [State.waitPass_eq])
  · exact absurd ha (hr rest)
  · obtain ⟨addr, width, r, rfl, -, rfl⟩ | ⟨addr, width, v, r, rfl, hacc, rfl⟩ := hostStep_cases hh
    · exact keeps (State.not_writeDropped_of_agenda (by simp [ha])) (State.hostRead_flags r _).2.2
    · obtain ⟨rfl, hlo, -, -, rfl⟩ := accessReg_ok hacc
      rw [State.hostWrite_overrun, regAt_writable]
      refine or_congr_right (and_congr_right fun _ => ⟨fun ho => ?_, fun ho => ?_⟩)
      · exact ⟨addr - s.params.pBase, v, rest, ho, by rw [ha, Nat.add_sub_cancel' hlo]⟩
      · obtain ⟨off, _, _, ho, ha'⟩ := ho
        have haddr : addr = s.params.pBase + off := by
          injection ha.symm.trans ha' with ht
          injection ht with ht
          injection ht
        rwa [haddr, Nat.add_sub_cancel_left]

/-- Settles O53: ERR by `step_err_cases`, OVERRUN by `step_overrun` and, for the reset input, by its value there. -/
theorem errAndOverrunAreSticky : Obligations.ErrAndOverrunAreSticky := by
  intro s t h
  refine ⟨fun hr => ⟨fun he => ?_, fun ho => (step_overrun h hr).mpr (.inl ho)⟩,
    fun hs ht => ?_, fun hb hb' hres => ?_, fun ho => ?_⟩
  · obtain ⟨⟨rest, ha⟩, -⟩ | ⟨hk, -⟩ | ⟨-, -, hk⟩ := step_err_cases h
    · exact absurd ha (hr rest)
    · rw [hk, he]
    · rw [hk, he, Bool.true_or]
  · obtain ⟨-, hf, -⟩ | ⟨hk, -⟩ | ⟨hb, hb', hk⟩ := step_err_cases h
    · simp [hf] at ht
    · simp [hk, hs] at ht
    · exact ⟨hb, hb', (Result.setsErr_iff _).mp (by simpa [hk, hs] using ht)⟩
  · obtain ⟨-, -, hn⟩ | ⟨-, hk⟩ | ⟨-, -, hk⟩ := step_err_cases h
    · simp [hn] at hres
    · simp [hk hb] at hb'
    · rw [hk, (Result.setsErr_iff _).mpr hres, Bool.or_true]
  · by_cases hr : ∃ rest, s.agenda = .reset :: rest
    · obtain ⟨rest, ha⟩ := hr
      have ht : t = State.resetInput { s with agenda := rest } := by
        simpa [step, turnStep, ha] using h.symm
      have hd : ¬ s.writeDropped := State.not_writeDropped_of_agenda (by simp [ha])
      exact iff_of_false (by simp [ht, State.resetInput, State.resetWith]) hd
    · have ht := step_overrun h (fun rest ha => hr ⟨rest, ha⟩)
      rwa [ho, or_iff_right Bool.false_ne_true] at ht

/-! ### Faults -/

/-- The count of a command word is in 1..8 (R63). -/
theorem countOk_countOf (w : Word) : countOk (countOf w) = true := by
  have h : ∀ x : BitVec 3, countOk (x.zeroExtend 4 + 1) = true := by decide
  exact h (fieldN w)

/-- The decoder gives only well-formed commands (R63, R67). -/
theorem wf_of_decodeWord {w : Word} {i : Instr} (h : decodeWord w = .ok i) : i.wf = true := by
  unfold decodeWord at h
  split at h
  next o _ =>
    cases h
    cases o with
    | wrseq | rdseq => exact countOk_countOf w
    | _ => rfl
  · cases h

/-- A command that judges no status has its first step and, where it waits, its end. -/
theorem pos_of_not_judgesStatus {i : Instr} {p : SeqPos} (hj : judgesStatus i = false)
    (hp : posBelongs i p = true) : p = .first ∨ ∃ r, p = .ending r ∧ waitsOnBus i = true := by
  cases p with
  | first => exact .inl rfl
  | ending r =>
    simp only [posBelongs, Bool.and_eq_true] at hp
    exact .inr ⟨r, rfl, hp.1.1⟩
  | _ => cases i <;> simp_all [posBelongs, judgesStatus, opensTransaction]

/-- OPEN has its first step, the address phase and its end. -/
theorem pos_of_openTxn {a7 : DeviceAddr} {d : Direction} {p : SeqPos}
    (hp : posBelongs (.openTxn a7 d) p = true) :
    p = .first ∨ p = .address ∨ ∃ r, p = .ending r := by
  cases p <;> simp_all [posBelongs]

/-- WRSEQ and RDSEQ have their first step, the bytes of their loop and their end. -/
theorem pos_of_loop {i : Instr} {c : BitVec 4} {p : SeqPos} (hi : i = .wrseq c ∨ i = .rdseq c)
    (hp : posBelongs i p = true) : p = .first ∨ (∃ k, p = .data k) ∨ ∃ r, p = .ending r := by
  obtain rfl | rfl := hi <;> cases p <;> simp_all [posBelongs, opensTransaction]

/-- A well-formed command has a step at each of its positions (R38). -/
theorem exec_ne_fault {i : Instr} {f : Fault} (hw : i.wf = true) (hp : posBelongs i s.pos = true) :
    exec i s ≠ .fault f := by
  cases i with
  | cfg | stop | close | decode | fpush =>
    obtain hpos | ⟨r, -, hno⟩ := pos_of_not_judgesStatus rfl hp
    · simp only [exec, execCfg, execStop, execClose, execDecode, execFpush, hpos]
      split <;> nofun
    · cases hno
  | start | wrb | rdb =>
    obtain hpos | ⟨r, hpos, -⟩ := pos_of_not_judgesStatus rfl hp
    · simp only [exec, execStart, execWrb, execRdb, hpos]
      split <;> nofun
    · simp only [exec, execStart, execWrb, execRdb, hpos]
      nofun
  | openTxn a7 d =>
    obtain hpos | hpos | ⟨r, hpos⟩ := pos_of_openTxn hp <;> simp only [exec, execOpenTxn, hpos]
    · split <;> nofun
    · nofun
    · nofun
  | wrseq c =>
    have hc : countOk c = true := hw
    obtain hpos | ⟨k, hpos⟩ | ⟨r, hpos⟩ := pos_of_loop (.inl rfl) hp <;>
      simp only [exec, execWrseq, hc, if_true, hpos]
    · split <;> nofun
    · nofun
    · nofun
  | rdseq c =>
    have hc : countOk c = true := hw
    obtain hpos | ⟨k, hpos⟩ | ⟨r, hpos⟩ := pos_of_loop (.inr rfl) hp <;>
      simp only [exec, execRdseq, hc, if_true, hpos]
    · split <;> nofun
    · nofun
    · nofun
  | measure =>
    cases hpos : s.pos with
    | first => simp only [exec, execMeasure, hpos]; split <;> nofun
    | address | data => rw [hpos] at hp; cases hp
    | _ => simp only [exec, execMeasure, hpos]; nofun

/-- A HOST access has a step or is refused (R42). -/
theorem hostStep_ne_fault {a : HostAccess} {f : Fault} : hostStep a s ≠ .fault f := by
  unfold hostStep
  split <;> split <;> nofun

/-- Under the invariant the SEQUENCER stands at a position of the command in CMDLATCH. -/
theorem sequencerStep_ne_fault {f : Fault} (hl : s.busy = true → s.latchFits = true) :
    sequencerStep s ≠ .fault f := by
  unfold sequencerStep
  split
  next hb =>
    have hfit := hl hb
    unfold State.latchFits at hfit
    split
    next i hd =>
      rw [hd] at hfit
      exact exec_ne_fault (wf_of_decodeWord hd) hfit
    · nofun
  · nofun

/-- Settles O57: the invariant keeps the position one of the command in CMDLATCH. -/
theorem noStepFaultsUnderTheInvariant : Obligations.NoStepFaultsUnderTheInvariant := by
  intro s f hinv
  unfold step turnStep
  split
  · exact sequencerStep_ne_fault hinv.latch
  · exact sequencerStep_ne_fault hinv.latch
  · nofun
  · nofun
  · exact hostStep_ne_fault

end Sys2Proof.Machine
end

section
/-! SUPPORT. The window slots no push has written (R35): states that differ only there read alike, and every
operation, procedure and command keeps them alike. -/

namespace Sys2Proof.Machine
variable {s s' t t' : State}

/-! ### Reading -/

/-- A window sum reads only the populated slots (R102). -/
theorem windowSum_congr {w v : Vector Field 3} {c : Nat}
    (h : ∀ i : Fin 3, i.val < c → w[i] = v[i]) : windowSum w c = windowSum v c := by
  have htake : w.toList.take c = v.toList.take c := by
    refine List.ext_getElem (by simp) fun i hi _ => ?_
    simp only [List.length_take, Vector.length_toList, lt_min_iff] at hi
    simpa using h ⟨i, hi.2⟩ hi.1
  rw [windowSum, windowSum, htake]

/-- States that differ only in unwritten slots read alike. -/
theorem regValue_eq_of_sameButUnwritten (h : sameButUnwritten s s') (r : Reg) :
    s'.regValue r = s.regValue r := by
  obtain ⟨heq, hslots⟩ := h
  have hH := windowSum_congr fun i hi => (hslots i hi).1
  have hT := windowSum_congr fun i hi => (hslots i hi).2
  rw [heq]
  cases r with
  | avgHSum => simp only [State.regValue, State.avgHSum, hH]
  | avgTSum => simp only [State.regValue, State.avgTSum, hT]
  | _ => rfl

/-! ### Stepping -/

/-- `s` with other window slots. -/
def State.withWindow (s : State) (h t : Vector Field 3) : State := { s with winH := h, winT := t }

/-- `s'` differs from `s` only in unwritten slots, and the next push writes the first of them (R104). -/
structure Alike (s s' : State) : Prop where
  eq : s' = s.withWindow s'.winH s'.winT
  slots : ∀ i : Fin 3, i.val < s.count.toNat → s'.winH[i] = s.winH[i] ∧ s'.winT[i] = s.winT[i]
  window : s.count.toNat < 3 → s.wrIdx.val = s.count.toNat

theorem Alike.sameButUnwritten (hs : Alike s s') : sameButUnwritten s s' := ⟨hs.eq, hs.slots⟩

theorem Alike.params (hs : Alike s s') : s'.params = s.params := by rw [hs.eq]; rfl
theorem Alike.configured (hs : Alike s s') : s'.configured = s.configured := by rw [hs.eq]; rfl
theorem Alike.busActive (hs : Alike s s') : s'.busActive = s.busActive := by rw [hs.eq]; rfl
theorem Alike.txnOpen (hs : Alike s s') : s'.txnOpen = s.txnOpen := by rw [hs.eq]; rfl
theorem Alike.txnDir (hs : Alike s s') : s'.txnDir = s.txnDir := by rw [hs.eq]; rfl
theorem Alike.decValid (hs : Alike s s') : s'.decValid = s.decValid := by rw [hs.eq]; rfl
theorem Alike.retries (hs : Alike s s') : s'.retries = s.retries := by rw [hs.eq]; rfl
theorem Alike.buf (hs : Alike s s') : s'.buf = s.buf := by rw [hs.eq]; rfl
theorem Alike.frameBusy (hs : Alike s s') : s'.frameBusy = s.frameBusy := by rw [hs.eq]; rfl
theorem Alike.rawH (hs : Alike s s') : s'.rawH = s.rawH := by rw [hs.eq]; rfl
theorem Alike.rawT (hs : Alike s s') : s'.rawT = s.rawT := by rw [hs.eq]; rfl
theorem Alike.pos (hs : Alike s s') : s'.pos = s.pos := by rw [hs.eq]; rfl
theorem Alike.startEvent (hs : Alike s s') : s'.startEvent = s.startEvent := by rw [hs.eq]; rfl
theorem Alike.startExpected (hs : Alike s s') : s'.startExpected = s.startExpected := by
  rw [hs.eq]; rfl
theorem Alike.rxExpected (hs : Alike s s') (ack : Bool) : s'.rxExpected ack = s.rxExpected ack := by
  rw [hs.eq]; rfl

/-- An operation that neither reads nor writes the window keeps states alike. -/
theorem Alike.update {f : State → State} (hs : Alike s s')
    (hf : ∀ (s : State) (h t : Vector Field 3),
      f (s.withWindow h t) = (f s).withWindow h t := by intros; rfl)
    (hidx : ∀ s, (f s).wrIdx = s.wrIdx := by intros; rfl)
    (hcount : ∀ s, (f s).count = s.count := by intros; rfl) : Alike (f s) (f s') := by
  have hself : f s = (f s).withWindow s.winH s.winT := hf s s.winH s.winT
  have hother : f s' = (f s).withWindow s'.winH s'.winT := by rw [← hf, ← hs.eq]
  have hH : (f s).winH = s.winH := by rw [hself]; rfl
  have hT : (f s).winT = s.winT := by rw [hself]; rfl
  have hH' : (f s').winH = s'.winH := by rw [hother]; rfl
  have hT' : (f s').winT = s'.winT := by rw [hother]; rfl
  refine ⟨by rw [hH', hT', hother], ?_, ?_⟩
  · rw [hcount, hH, hT, hH', hT']; exact hs.slots
  · rw [hcount, hidx]; exact hs.window

/-- An operation that keeps states alike. -/
def KeepsAlike (f : State → State) : Prop := ∀ {s s'}, Alike s s' → Alike (f s) (f s')

theorem keepsAlike_goto (p : SeqPos) : KeepsAlike (State.goto p) := fun hs => hs.update

theorem keepsAlike_emit (e : BusEvent) : KeepsAlike (State.emit e) := fun hs => hs.update

theorem keepsAlike_finish (r : Result) : KeepsAlike (State.finish r) := fun hs => hs.update

theorem keepsAlike_stop : KeepsAlike State.stop := fun hs => hs.update

theorem keepsAlike_fail : KeepsAlike State.fail :=
  fun hs => hs.update (hidx := State.fail_wrIdx) (hcount := State.fail_count) fun s _ _ => by
    unfold State.fail
    change (if s.params.abortStop then _ else _) = _
    split <;> rfl

theorem keepsAlike_decodeFrame : KeepsAlike State.decodeFrame := fun hs => hs.update

theorem keepsAlike_raised (r : Result) : KeepsAlike (State.raised r) := fun hs => hs.update

theorem keepsAlike_measureErr (r : Result) : KeepsAlike (State.measureErr r) := fun hs => hs.update

theorem keepsAlike_setBuf (i : Fin 8) (d : Byte) :
    KeepsAlike (fun s => { s with buf := s.buf.set i d }) :=
  fun hs => hs.update (f := fun s => { s with buf := s.buf.set i d })

/-- The bus gives alike states one answer. -/
theorem Alike.nextAnswer (hs : Alike s s') :
    s'.nextAnswer.1 = s.nextAnswer.1 ∧ Alike s.nextAnswer.2 s'.nextAnswer.2 := by
  have hf (s : State) (h t : Vector Field 3) :
      (s.withWindow h t).nextAnswer = (s.nextAnswer.1, s.nextAnswer.2.withWindow h t) := by
    simp only [State.nextAnswer, State.withWindow]
    cases s.answers <;> rfl
  refine ⟨by rw [hs.eq, hf], ?_⟩
  exact hs.update (f := fun s => s.nextAnswer.2) (fun s h t => by rw [hf])
    State.nextAnswer_wrIdx State.nextAnswer_count

/-- Push writes the first unwritten slot, so the states stay alike (R100, R104). -/
theorem Alike.push (hs : Alike s s') (h t : Field) : Alike (s.push h t) (s'.push h t) := by
  have hidx : s'.wrIdx = s.wrIdx := by rw [hs.eq]; rfl
  have hc : s.count.toNat < 4 := s.count.isLt
  have hcount : (s.push h t).count.toNat = min (s.count.toNat + 1) 3 := by
    rw [State.push_count, BitVec.toNat_ofNat]; omega
  refine ⟨?_, fun i hi => ?_, fun hlt => ?_⟩
  · have : s'.push h t = (s.withWindow s'.winH s'.winT).push h t := by rw [← hs.eq]
    rw [this]; rfl
  · simp only [State.push_winH, State.push_winT, hidx]
    by_cases hw : s.wrIdx = i
    · subst hw; simp
    · have hne : s.wrIdx.val ≠ i.val := fun h => hw (Fin.ext h)
      have hwin := hs.window
      have hslot := hs.slots i (by omega)
      simpa [Vector.getElem_set_ne _ _ hne] using hslot
  · have hwin := hs.window (by omega)
    rw [State.push_wrIdx, hcount, Fin.val_add]
    simp; omega

/-- Two outcomes of a step: the second is a next state where the first is, and it is alike. -/
def OutcomeAlike (o o' : StepOutcome) : Prop := ∀ t, o = .next t → ∃ t', o' = .next t' ∧ Alike t t'

theorem OutcomeAlike.next (h : Alike t t') : OutcomeAlike (.next t) (.next t') := by
  rintro _ ⟨⟩; exact ⟨t', rfl, h⟩

theorem OutcomeAlike.fault {f f' : Fault} : OutcomeAlike (.fault f) (.fault f') :=
  fun _ h => by cases h

/-- A bus wait in alike states, with continuations that keep states alike. -/
theorem Alike.waited {e : BusEvent} {onDone onDone' : Byte → Byte → State → State}
    {onTimeout onTimeout' : State → State} (hs : Alike s s')
    (hd : ∀ st d u u', Alike u u' → Alike (onDone st d u) (onDone' st d u'))
    (ht : ∀ u u', Alike u u' → Alike (onTimeout u) (onTimeout' u')) :
    Option.Rel Alike (s.waited e onDone onTimeout) (s'.waited e onDone' onTimeout') := by
  obtain ⟨ha, hu⟩ := hs.nextAnswer
  unfold State.waited
  rw [hs.params]
  revert ha hu
  generalize s.nextAnswer = x
  generalize s'.nextAnswer = x'
  obtain ⟨a, u⟩ := x
  obtain ⟨a', u'⟩ := x'
  rintro rfl hu
  cases a' with
  | done st d =>
    refine .some (hd st d _ _ ?_)
    exact hu.update (f := fun u => { u.emit e with lastBusStatus := st })
  | silent =>
    dsimp only
    split
    · exact .none
    · exact .some (ht _ _ (keepsAlike_emit e hu))

theorem Alike.stepOr {o o' : Option State} (hs : Alike s s') (ho : Option.Rel Alike o o') :
    OutcomeAlike (s.stepOr o) (s'.stepOr o') := by
  cases ho with
  | some h => exact .next h
  | none => exact .next hs.nextAnswer.2

section
variable {ok : State → State} {err : Result → State → State} (hs : Alike s s')
  (hok : KeepsAlike ok) (herr : ∀ r, KeepsAlike (err r))
include hs hok herr

theorem Alike.openStart : Option.Rel Alike (s.openStart ok err) (s'.openStart ok err) := by
  unfold State.openStart
  rw [hs.startEvent, hs.startExpected]
  refine hs.waited (fun st _ u u' hu => ?_) (fun _ _ hu => herr _ (keepsAlike_fail hu))
  split
  · exact hok hu
  · exact herr _ (keepsAlike_fail hu)

theorem Alike.openAddress (a7 : DeviceAddr) (d : Direction) :
    Option.Rel Alike (s.openAddress a7 d ok err) (s'.openAddress a7 d ok err) := by
  unfold State.openAddress
  rw [hs.params]
  refine hs.waited (fun st _ u u' hu => ?_) (fun _ _ hu => herr _ (keepsAlike_fail hu))
  split
  · exact hok (hu.update (f := fun u => { u with txnOpen := true, txnDir := d }))
  · split <;> exact herr _ (keepsAlike_fail hu)

theorem Alike.writeByte (b : Byte) :
    Option.Rel Alike (s.writeByte b ok err) (s'.writeByte b ok err) := by
  unfold State.writeByte
  rw [hs.params]
  refine hs.waited (fun st _ u u' hu => ?_) (fun _ _ hu => herr _ (keepsAlike_fail hu))
  split
  · exact hok hu
  · exact herr _ (keepsAlike_fail hu)

theorem Alike.readByte (i : Fin 8) (ack : Bool) :
    Option.Rel Alike (s.readByte i ack ok err) (s'.readByte i ack ok err) := by
  unfold State.readByte
  rw [hs.rxExpected]
  refine hs.waited (fun st d u u' hu => ?_) (fun _ _ hu => herr _ (keepsAlike_fail hu))
  split
  · exact hok (keepsAlike_setBuf i d hu)
  · exact herr _ (keepsAlike_fail hu)

end

theorem Alike.linkWait {e : BusEvent} {onDone : Byte → State → State} (hs : Alike s s')
    (hd : ∀ d, KeepsAlike (onDone d)) :
    Option.Rel Alike (s.linkWait e onDone) (s'.linkWait e onDone) :=
  hs.waited (fun _ d _ _ hu => keepsAlike_goto _ (hd d hu)) (fun _ _ hu => keepsAlike_goto _ hu)

/-! ### The commands -/

/-- A step that only finishes. -/
theorem Alike.finish (hs : Alike s s') (r : Result) :
    OutcomeAlike (.next (s.finish r)) (.next (s'.finish r)) := .next (keepsAlike_finish r hs)

/-! In the proofs below, the fields that a command tests read the same in both states, so `rw` names them by `s`;
an updated state then holds them as fields of `s` too. -/

theorem execCfg_alike (b : Byte) (hs : Alike s s') : OutcomeAlike (execCfg b s) (execCfg b s') := by
  unfold execCfg
  rw [hs.pos, hs.busActive]
  split
  · split
    · exact hs.finish _
    · exact .next (hs.update
        (f := fun u => State.finish .ok
          { u with busDiv := b, configured := true, busActive := s.busActive }))
  · exact .fault

theorem execStart_alike (hs : Alike s s') : OutcomeAlike (execStart s) (execStart s') := by
  unfold execStart
  rw [hs.pos, hs.configured, hs.startEvent]
  split
  · split
    · exact hs.stepOr (hs.linkWait fun _ => id)
    · exact hs.finish _
  · exact hs.finish _
  · exact .fault

theorem execStop_alike (hs : Alike s s') : OutcomeAlike (execStop s) (execStop s') := by
  unfold execStop
  rw [hs.pos, hs.configured]
  split
  · split
    · exact Alike.finish (keepsAlike_stop hs) _
    · exact hs.finish _
  · exact .fault

theorem execClose_alike (hs : Alike s s') : OutcomeAlike (execClose s) (execClose s') :=
  execStop_alike hs

theorem execWrb_alike (b : Byte) (hs : Alike s s') : OutcomeAlike (execWrb b s) (execWrb b s') := by
  unfold execWrb
  rw [hs.pos, hs.configured, hs.busActive]
  split
  · split
    · exact hs.stepOr (hs.linkWait fun _ => id)
    · exact hs.finish _
  · exact hs.finish _
  · exact .fault

theorem execRdb_alike (ack : Bool) (hs : Alike s s') :
    OutcomeAlike (execRdb ack s) (execRdb ack s') := by
  unfold execRdb
  rw [hs.pos, hs.configured, hs.busActive]
  split
  · split
    · exact hs.stepOr (hs.linkWait fun d => keepsAlike_setBuf 0 d)
    · exact hs.finish _
  · exact hs.finish _
  · exact .fault

theorem execOpenTxn_alike (a7 : DeviceAddr) (d : Direction) (hs : Alike s s') :
    OutcomeAlike (execOpenTxn a7 d s) (execOpenTxn a7 d s') := by
  unfold execOpenTxn
  rw [hs.pos, hs.configured, hs.txnOpen]
  split
  · split
    · exact hs.stepOr (hs.openStart (keepsAlike_goto _) keepsAlike_raised)
    · exact hs.finish _
  · exact hs.stepOr (hs.openAddress (keepsAlike_goto _) keepsAlike_raised a7 d)
  · exact hs.finish _
  · exact .fault

theorem Alike.wrseqByte (hs : Alike s s') (c : BitVec 4) (k : Fin 8) :
    OutcomeAlike (s.stepOr (s.wrseqByte c k)) (s'.stepOr (s'.wrseqByte c k)) := by
  unfold State.wrseqByte
  rw [hs.buf]
  exact hs.stepOr (hs.writeByte (keepsAlike_goto _) keepsAlike_raised _)

theorem execWrseq_alike (c : BitVec 4) (hs : Alike s s') :
    OutcomeAlike (execWrseq c s) (execWrseq c s') := by
  unfold execWrseq
  rw [hs.pos, hs.configured, hs.txnOpen, hs.txnDir]
  split
  · split
    · split
      · exact hs.wrseqByte c 0
      · exact hs.finish _
    · exact hs.wrseqByte c _
    · exact hs.finish _
    · exact .fault
  · exact .fault

theorem Alike.rdseqByte (hs : Alike s s') (c : BitVec 4) (k : Fin 8) :
    OutcomeAlike (s.stepOr (s.rdseqByte c k)) (s'.stepOr (s'.rdseqByte c k)) :=
  hs.stepOr (hs.readByte (keepsAlike_goto _) keepsAlike_raised k _)

theorem execRdseq_alike (c : BitVec 4) (hs : Alike s s') :
    OutcomeAlike (execRdseq c s) (execRdseq c s') := by
  unfold execRdseq
  rw [hs.pos, hs.configured, hs.txnOpen, hs.txnDir]
  split
  · split
    · split
      · exact hs.rdseqByte c 0
      · exact hs.finish _
    · exact hs.rdseqByte c _
    · exact hs.finish _
    · exact .fault
  · exact .fault

theorem execDecode_alike (hs : Alike s s') : OutcomeAlike (execDecode s) (execDecode s') := by
  unfold execDecode
  rw [hs.pos, hs.frameBusy]
  split
  · split
    · exact .next (hs.update
        (f := fun s => State.finish .sensorBusy { s with decValid := false }))
    · exact Alike.finish (keepsAlike_decodeFrame hs) _
  · exact .fault

theorem execFpush_alike (hs : Alike s s') : OutcomeAlike (execFpush s) (execFpush s') := by
  unfold execFpush
  rw [hs.pos, hs.decValid, hs.rawH, hs.rawT]
  split
  · split
    · exact Alike.finish (hs.push _ _) _
    · exact hs.finish _
  · exact .fault

/-! ### MEASURE -/

theorem keepsAlike_measureReady : KeepsAlike State.measureReady := by
  intro s s' hs
  have hd := keepsAlike_decodeFrame hs
  unfold State.measureReady
  rw [hd.rawH, hd.rawT]
  exact (hd.push _ _).update (f := fun s => { s with seqState := .ready })

theorem keepsAlike_measureDecode : KeepsAlike State.measureDecode := by
  intro s s' hs
  unfold State.measureDecode
  rw [hs.frameBusy, hs.retries, hs.params]
  split
  · split
    · exact hs.update (f := fun u => State.goto .trigStart
        { u with
          params := s.params, decValid := false, retries := s.retries + 1
          seqState := .triggering })
    · exact hs.update (f := fun u => State.goto (.ending .sensorBusy)
        { u with
          params := s.params, decValid := false, retries := s.retries, seqState := .invalid })
  · exact keepsAlike_goto _ (keepsAlike_measureReady hs)

theorem keepsAlike_measureRead : KeepsAlike State.measureRead :=
  fun hs =>
    keepsAlike_measureDecode (hs.update (f := fun s => { s.stop with seqState := .decoding }))

theorem keepsAlike_measureTriggered : KeepsAlike State.measureTriggered := fun hs => hs.update

theorem Alike.measureTrigger (hs : Alike s s') :
    Option.Rel Alike s.measureTrigger s'.measureTrigger :=
  have hu := hs.update (f := fun s => { s with seqState := .triggering })
  hu.openStart (keepsAlike_goto _) keepsAlike_measureErr

theorem Alike.measureTrigByte (hs : Alike s s') (k : Fin 3) :
    Option.Rel Alike (s.measureTrigByte k) (s'.measureTrigByte k) := by
  refine hs.writeByte (fun hu => ?_) keepsAlike_measureErr _
  split
  · exact keepsAlike_measureTriggered hu
  · exact keepsAlike_goto _ hu

theorem Alike.measureReadByte (hs : Alike s s') (k : Fin 7) :
    Option.Rel Alike (s.measureReadByte k) (s'.measureReadByte k) := by
  refine hs.readByte (fun hu => ?_) keepsAlike_measureErr _ _
  split
  · exact keepsAlike_measureRead hu
  · exact keepsAlike_goto _ hu

theorem execMeasure_alike (hs : Alike s s') : OutcomeAlike (execMeasure s) (execMeasure s') := by
  unfold execMeasure
  rw [hs.pos, hs.configured, hs.txnOpen]
  split
  · split
    · exact hs.stepOr (Alike.measureTrigger (hs.update
        (f := fun u => { u with
          retries := 0, pos := s.pos, configured := s.configured, txnOpen := s.txnOpen })))
    · exact hs.finish _
  · exact hs.stepOr hs.measureTrigger
  · exact hs.stepOr (hs.openAddress (keepsAlike_goto _) keepsAlike_measureErr _ _)
  · exact hs.stepOr (hs.measureTrigByte _)
  · exact .next (hs.update
      (f := fun s => State.goto .readStart { s.settle with seqState := .reading }))
  · exact hs.stepOr (hs.openStart (keepsAlike_goto _) keepsAlike_measureErr)
  · exact hs.stepOr (hs.openAddress (keepsAlike_goto _) keepsAlike_measureErr _ _)
  · exact hs.stepOr (hs.measureReadByte _)
  · exact hs.finish _
  · exact .fault

/-- Every command steps alike from alike states. -/
theorem exec_alike (i : Instr) (hs : Alike s s') : OutcomeAlike (exec i s) (exec i s') := by
  cases i with
  | cfg b => exact execCfg_alike b hs
  | start => exact execStart_alike hs
  | stop => exact execStop_alike hs
  | wrb b => exact execWrb_alike b hs
  | rdb ack => exact execRdb_alike ack hs
  | openTxn a7 d => exact execOpenTxn_alike a7 d hs
  | wrseq n => exact execWrseq_alike n hs
  | rdseq n => exact execRdseq_alike n hs
  | close => exact execClose_alike hs
  | decode => exact execDecode_alike hs
  | fpush => exact execFpush_alike hs
  | measure => exact execMeasure_alike hs

/-- Settles O60: the registers by the window sums, the steps by `exec_alike`, which needs of the invariant only that
the next push writes the first unwritten slot. -/
theorem unwrittenSlotsCannotBeObserved : Obligations.UnwrittenSlotsCannotBeObserved := by
  intro i s s' t hinv hsame
  refine ⟨regValue_eq_of_sameButUnwritten hsame, fun h => ?_⟩
  obtain ⟨t', ht', hs⟩ := exec_alike i ⟨hsame.1, hsame.2, hinv.window⟩ t h
  exact ⟨t', ht', hs.sameButUnwritten⟩

end Sys2Proof.Machine
end

section
/-! SUPPORT. The HOST's accesses as steps: which exist, what a read returns, what a write does (R42 to R47). -/

namespace Sys2Proof.Machine

variable {s u : State} {rest : List Turn}

/-! ### Which accesses exist -/

/-- The accesses of R42 are those that address a register. -/
theorem legalAccess_iff {p : Params} {addr width : Nat} :
    legalAccess p addr width ↔ ∃ r, accessReg p addr width = .ok r := by
  constructor
  · rintro ⟨rfl, hlo, hhi, h4⟩
    have hr := accessReg_window p (off := addr - p.pBase) (by omega) h4
    rw [Nat.add_sub_cancel' hlo] at hr
    exact ⟨_, hr⟩
  · rintro ⟨r, hr⟩
    obtain ⟨hw, hlo, hhi, h4, -⟩ := accessReg_ok hr
    exact ⟨hw, hlo, hhi, h4⟩

/-- A HOST turn is its access. -/
theorem step_host {a : HostAccess} (ha : s.agenda = .host a :: rest) :
    step s = hostStep a { s with agenda := rest } := by
  simp [step, turnStep, ha]

/-- An access of R42 has a step. -/
theorem hostStep_of_legalAccess {a : HostAccess} {addr width : Nat} {v : Word}
    (ha : a = .read addr width ∨ a = .write addr width v) (h : legalAccess s.params addr width) :
    ∃ t, hostStep a s = .next t := by
  obtain ⟨r, hr⟩ := legalAccess_iff.mp h
  obtain rfl | rfl := ha
  · exact ⟨s.hostRead r, by simp [hostStep, hr]⟩
  · exact ⟨s.hostWrite r v, by simp [hostStep, hr]⟩

/-- Every other access is refused. -/
theorem hostStep_of_not_legalAccess {a : HostAccess} {addr width : Nat} {v : Word}
    (ha : a = .read addr width ∨ a = .write addr width v)
    (h : ¬ legalAccess s.params addr width) : ∃ e, hostStep a s = .refused e := by
  cases hr : accessReg s.params addr width with
  | ok r => exact absurd (legalAccess_iff.mpr ⟨r, hr⟩) h
  | error e =>
    obtain rfl | rfl := ha
    · exact ⟨e, by simp [hostStep, hr]⟩
    · exact ⟨e, by simp [hostStep, hr]⟩

/-- Settles O3: an access has a step exactly where it addresses a register. -/
theorem onlyAlignedWordAccessesExist : Obligations.OnlyAlignedWordAccessesExist := by
  intro s rest addr width v ha
  obtain ⟨a, hag, ha⟩ : ∃ a, s.agenda = .host a :: rest ∧
      (a = .read addr width ∨ a = .write addr width v) := by
    obtain ha | ha := ha
    · exact ⟨_, ha, .inl rfl⟩
    · exact ⟨_, ha, .inr rfl⟩
  rw [step_host hag]
  exact ⟨hostStep_of_legalAccess (s := { s with agenda := rest }) ha,
    hostStep_of_not_legalAccess (s := { s with agenda := rest }) ha⟩

/-! ### Reads -/

/-- A HOST read at an offset of the window is that read of the register there. -/
theorem step_hostRead {off : Nat}
    (ha : s.agenda = .host (.read (s.params.pBase + off) 4) :: rest) (h : off < 64)
    (h4 : off % 4 = 0) :
    step s = .next (State.hostRead (regAt off) { s with agenda := rest }) := by
  simp [step_host ha, hostStep, accessReg_window s.params h h4]

/-- A read gives the HOST one value, which is the register's unless it is a draw (R43). -/
theorem State.hostRead_eq (r : Reg) (s : State) :
    ∃ v d, s.hostRead r = { s with hostReads := s.hostReads ++ [v], draws := d } ∧
      ((s.busy && r.drawnWhileBusy) = false → v = s.regValue r) := by
  unfold State.hostRead
  split
  next h => exact ⟨_, _, rfl, fun hn => by simp [hn] at h⟩
  · exact ⟨_, _, rfl, fun _ => rfl⟩

/-- The offsets from 0x28 on are reserved (R17). -/
theorem regAt_reserved {off : Nat} (h : 0x28 ≤ off) : regAt off = .reserved := by
  unfold regAt
  split
  -- the ten named offsets lie below 0x28
  iterate 10 omega
  rfl

/-- Settles O4: the value of each register, which is no draw where BUSY = 0 or the register is never drawn. -/
theorem hostReadReturnsTheRegister : Obligations.HostReadReturnsTheRegister := by
  intro s rest off h h4 ha
  obtain ⟨v, d, hread, hv⟩ := State.hostRead_eq (regAt off) { s with agenda := rest }
  have always (hr : (regAt off).drawnWhileBusy = false) :
      v = State.regValue (regAt off) { s with agenda := rest } := hv (by rw [hr, Bool.and_false])
  refine ⟨v, d, by rw [step_hostRead ha h h4, hread], ?_, ?_, ?_, fun hres => ?_, fun hb => ?_⟩
  · rintro rfl; exact always rfl
  · rintro rfl; exact always rfl
  · rintro rfl; exact always rfl
  · rw [regAt_reserved hres] at always; exact always rfl
  · have idle := hv (by rw [hb, Bool.false_and])
    refine ⟨?_, ?_, ?_, ?_, ?_, ?_, ?_⟩ <;> (rintro rfl; exact idle)

/-! ### Writes -/

/-- A register other than CMD, BUF0 and BUF1 ignores a write (R47). -/
theorem State.hostWrite_of_readOnly {r : Reg} (v : Word)
    (h : ¬ (r = .cmd ∨ r = .buf0 ∨ r = .buf1)) : s.hostWrite r v = s := by
  cases r with
  | cmd => exact absurd (.inl rfl) h
  | buf0 => exact absurd (.inr (.inl rfl)) h
  | buf1 => exact absurd (.inr (.inr rfl)) h
  | _ => rfl

/-- CMD, BUF0 and BUF1 drop a write while BUSY = 1 (R46). -/
theorem State.hostWrite_of_busy {r : Reg} (v : Word) (h : r = .cmd ∨ r = .buf0 ∨ r = .buf1)
    (hb : s.busy = true) : s.hostWrite r v = s.droppedWrite := by
  obtain rfl | rfl | rfl := h <;> exact if_pos hb

/-- Settles O9: the three writable registers stand at the three offsets left out. -/
theorem readOnlyWriteIsIgnored : Obligations.ReadOnlyWriteIsIgnored := by
  intro s rest off v h h4 hcmd hbuf0 hbuf1 ha
  have hro : ¬ (regAt off = .cmd ∨ regAt off = .buf0 ∨ regAt off = .buf1) := by
    rw [regAt_writable]
    simp [hcmd, hbuf0, hbuf1]
  rw [step_hostWrite ha h h4, State.hostWrite_of_readOnly v hro]

/-- Settles O8: the write is the dropped one of R46. -/
theorem writeWhileBusyIsDropped : Obligations.WriteWhileBusyIsDropped := by
  intro s rest off v hb hoff ha
  rw [step_hostWrite ha (by omega) (by omega)]
  exact congrArg _ (State.hostWrite_of_busy v ((regAt_writable off).mpr hoff) hb)

/-! ### The command a write starts -/

/-- The state in which the SEQUENCER steps differs only in the turns left. -/
theorem State.sequencerTurn_eq (h : s.sequencerTurn = some u) : u = { s with agenda := u.agenda } := by
  unfold State.sequencerTurn at h
  split at h <;> cases h <;> rfl

/-- A turn of the SEQUENCER is its step. -/
theorem step_of_sequencerTurn (h : s.sequencerTurn = some u) : step s = sequencerStep u := by
  unfold State.sequencerTurn at h
  split at h <;> cases h
  next ha => simp [step, turnStep, ha]
  next ha => simp [step, turnStep, ha]

/-- With BUSY = 1 the SEQUENCER runs the command in CMDLATCH (R65). -/
theorem sequencerStep_of_decodeWord {i : Instr} (hb : s.busy = true)
    (hd : decodeWord s.cmdLatch = .ok i) : sequencerStep s = exec i s := by
  simp [sequencerStep, hb, hd]

/-- Settles O6: the write is `startCommand`, and the SEQUENCER's next turn finds its word in CMDLATCH. -/
theorem cmdWriteStartsTheCommand : Obligations.CmdWriteStartsTheCommand := by
  intro s rest v hb ha
  refine ⟨State.startCommand v { s with agenda := rest }, ?_, rfl, fun i u hd hu => ?_⟩
  · rw [step_hostWrite (off := 0) ha (by decide) (by decide)]
    exact congrArg _ (if_neg (by simp [hb]))
  · have heq := State.sequencerTurn_eq hu
    rw [step_of_sequencerTurn hu]
    exact sequencerStep_of_decodeWord (by rw [heq]; rfl) (by rw [heq]; exact hd)

end Sys2Proof.Machine
end

section
/-! SUPPORT. The bus waits (R52, R53): where an answer comes from, when a wait ends, and what its step appends to H. -/

namespace Sys2Proof.Machine

variable {s u : State} {e : BusEvent} {ok : State → State} {err : Result → State → State}

/-! ### The answer -/

/-- Where no answer is listed, it is a draw. -/
theorem State.nextAnswer_of_nil (h : s.answers = []) :
    s.nextAnswer = (Config.busAnswer s.draws, { s with draws := s.draws + 1 }) := by
  simp [State.nextAnswer, h]

/-- Settles O18: the answer and the state after it, for a listed answer and for a draw. -/
theorem answersComeFromTheEnvironment : Obligations.AnswersComeFromTheEnvironment :=
  fun _ => ⟨fun _ _ => State.nextAnswer_of_cons, State.nextAnswer_of_nil⟩

/-- The answer depends on the environment alone. -/
theorem State.nextAnswer_fst_congr (ha : u.answers = s.answers) (hd : u.draws = s.draws) :
    u.nextAnswer.1 = s.nextAnswer.1 := by
  unfold State.nextAnswer
  rw [ha, hd]
  split <;> rfl

/-! ### What a wait is -/

/-- No answer at this draw of an unbounded wait: the SEQUENCER has no step (R53). -/
def State.Unanswered (s : State) : Prop := s.params.waitBound = 0 ∧ s.nextAnswer.1 = .silent

/-- `t` is `s` with nothing or one P appended to H: what may follow the event of a wait in its step. -/
def AtMostStop (s t : State) : Prop := t.history = s.history ∨ t.history = s.history ++ [.stop]

/-- `w` is a wait for the event `e` at `s`: it has no step exactly where it is unanswered, and its step appends `e`
and at most one P. -/
def State.IsWait (s : State) (e : BusEvent) (w : Option State) : Prop :=
  (w = none ↔ s.Unanswered) ∧
    ∀ t, w = some t → ∃ l, t.history = s.history ++ e :: l ∧ (l = [] ∨ l = [.stop])

theorem State.waited_eq_none_iff {onDone : Byte → Byte → State → State} {onTimeout : State → State} :
    s.waited e onDone onTimeout = none ↔ s.Unanswered := by
  refine ⟨fun h => ?_, fun ⟨hb, ha⟩ => State.waited_hangs ha hb⟩
  unfold State.waited at h
  split at h
  · cases h
  next hn =>
    split at h
    next hb => exact ⟨hb, by rw [hn]⟩
    · cases h

/-- A bus wait whose continuations append at most one P is a wait for its event. -/
theorem State.waited_isWait {onDone : Byte → Byte → State → State} {onTimeout : State → State}
    (hdone : ∀ st d v, AtMostStop v (onDone st d v)) (htime : ∀ v, AtMostStop v (onTimeout v)) :
    s.IsWait e (s.waited e onDone onTimeout) := by
  refine ⟨State.waited_eq_none_iff, fun t h => ?_⟩
  obtain ⟨v, hv, ht⟩ : ∃ v : State, v.history = s.history ++ [e] ∧ AtMostStop v t := by
    obtain ⟨as, n, ⟨st, d, rfl⟩ | ⟨-, rfl⟩⟩ := State.waited_cases h
    · exact ⟨_, rfl, hdone st d _⟩
    · exact ⟨_, rfl, htime _⟩
  obtain ht | ht := ht
  · exact ⟨[], by rw [ht, hv], .inl rfl⟩
  · exact ⟨[.stop], by rw [ht, hv, List.append_assoc]; rfl, .inr rfl⟩

/-- What a wait is depends on the parameters, H and the environment alone. -/
theorem State.IsWait.congr {w : Option State} (h : u.IsWait e w) (hp : u.params = s.params)
    (hh : u.history = s.history) (ha : u.answers = s.answers) (hd : u.draws = s.draws) :
    s.IsWait e w := by
  unfold State.IsWait State.Unanswered at h
  rwa [hp, hh, State.nextAnswer_fst_congr ha hd] at h

/-! ### What follows the event of a wait -/

theorem atMostStop_goto (p : SeqPos) (v : State) : AtMostStop v (v.goto p) := .inl rfl

/-- `Fail` emits at most one P (R78). -/
theorem atMostStop_fail (v : State) : AtMostStop v v.fail := by
  unfold AtMostStop
  rw [State.fail_history]
  split
  · exact .inr rfl
  · exact .inl (List.append_nil _)

/-- A procedure's Err(r) after its `Fail`, where the command appends nothing. -/
theorem atMostStop_err (herr : ∀ r v, (err r v).history = v.history) (r : Result) (v : State) :
    AtMostStop v (err r v.fail) := by
  unfold AtMostStop
  rw [herr]
  exact atMostStop_fail v

theorem State.raised_history (r : Result) (v : State) : (v.raised r).history = v.history := rfl

theorem State.measureErr_history (r : Result) (v : State) :
    (v.measureErr r).history = v.history := rfl

theorem atMostStop_measureTriggered (v : State) : AtMostStop v v.measureTriggered := .inr rfl

theorem atMostStop_measureRead (v : State) : AtMostStop v v.measureRead :=
  .inr (State.measureDecode_history _)

/-! ### The waits of the commands -/

theorem State.linkWait_isWait {onDone : Byte → State → State}
    (h : ∀ d v, (onDone d v).history = v.history) : s.IsWait e (s.linkWait e onDone) :=
  State.waited_isWait (fun _ d v => .inl (h d v)) (atMostStop_goto _)

section
variable (hok : ∀ v, AtMostStop v (ok v)) (herr : ∀ r v, (err r v).history = v.history)
include hok herr

theorem State.openStart_isWait : s.IsWait s.startEvent (s.openStart ok err) := by
  refine State.waited_isWait (fun st d v => ?_) (atMostStop_err herr _)
  split
  · exact hok v
  · exact atMostStop_err herr _ v

theorem State.openAddress_isWait (a7 : DeviceAddr) (d : Direction) :
    s.IsWait (.tx (addressByte a7 d)) (s.openAddress a7 d ok err) := by
  refine State.waited_isWait (fun st x v => ?_) (atMostStop_err herr _)
  split
  · exact hok { v with txnOpen := true, txnDir := d }
  split
  · exact atMostStop_err herr _ v
  · exact atMostStop_err herr _ v

theorem State.writeByte_isWait (b : Byte) : s.IsWait (.tx b) (s.writeByte b ok err) := by
  refine State.waited_isWait (fun st d v => ?_) (atMostStop_err herr _)
  split
  · exact hok v
  · exact atMostStop_err herr _ v

theorem State.readByte_isWait (i : Fin 8) (ack : Bool) :
    s.IsWait (.rx ack) (s.readByte i ack ok err) := by
  refine State.waited_isWait (fun st d v => ?_) (atMostStop_err herr _)
  split
  · exact hok { v with buf := v.buf.set i d }
  · exact atMostStop_err herr _ v

end

theorem State.measureTrigger_isWait : s.IsWait s.startEvent s.measureTrigger :=
  (State.openStart_isWait (s := { s with seqState := .triggering }) (atMostStop_goto _)
    State.measureErr_history).congr rfl rfl rfl rfl

theorem State.measureTrigByte_isWait (k : Fin 3) :
    s.IsWait (.tx Config.trigger[k]) (s.measureTrigByte k) := by
  refine State.writeByte_isWait (fun v => ?_) State.measureErr_history _
  split
  · exact atMostStop_measureTriggered v
  · exact atMostStop_goto _ v

theorem State.measureReadByte_isWait (k : Fin 7) :
    s.IsWait (.rx (decide (k.val < 6))) (s.measureReadByte k) := by
  have hack : (!isLast Config.frameLen k.val) = decide (k.val < 6) := by
    rw [not_isLast, decide_eq_decide]
    exact Nat.succ_lt_succ_iff
  rw [← hack]
  refine State.readByte_isWait (fun v => ?_) State.measureErr_history _ _
  split
  · exact atMostStop_measureRead v
  · exact atMostStop_goto _ v

/-! ### The step of a command at a wait, its checks passed -/

theorem exec_start_first (hp : s.pos = .first) (hpre : precondition .start s = true) :
    exec .start s = s.stepOr (s.linkWait s.startEvent fun _ t => t) := by
  simp only [exec, execStart, hp]
  exact if_pos hpre

theorem exec_wrb_first {b : Byte} (hp : s.pos = .first) (hpre : precondition (.wrb b) s = true) :
    exec (.wrb b) s = s.stepOr (s.linkWait (.tx b) fun _ t => t) := by
  simp only [exec, execWrb, hp]
  exact if_pos hpre

theorem exec_rdb_first {a : Bool} (hp : s.pos = .first) (hpre : precondition (.rdb a) s = true) :
    exec (.rdb a) s =
      s.stepOr (s.linkWait (.rx a) fun d t => { t with buf := t.buf.set 0 d }) := by
  simp only [exec, execRdb, hp]
  exact if_pos hpre

theorem exec_openTxn_first {a7 : DeviceAddr} {d : Direction} (hp : s.pos = .first)
    (hpre : precondition (.openTxn a7 d) s = true) :
    exec (.openTxn a7 d) s = s.stepOr (s.openStart (State.goto .address) State.raised) := by
  simp only [exec, execOpenTxn, hp]
  exact if_pos hpre

theorem exec_openTxn_address {a7 : DeviceAddr} {d : Direction} (hp : s.pos = .address) :
    exec (.openTxn a7 d) s =
      s.stepOr (s.openAddress a7 d (State.goto (.ending .ok)) State.raised) := by
  simp only [exec, execOpenTxn, hp]

theorem exec_wrseq_first {c : BitVec 4} (hc : countOk c = true) (hp : s.pos = .first)
    (hpre : precondition (.wrseq c) s = true) :
    exec (.wrseq c) s = s.stepOr (s.wrseqByte c 0) := by
  simp only [exec, execWrseq, hc, if_true, hp]
  exact if_pos hpre

theorem exec_wrseq_data {c : BitVec 4} {k : Fin 8} (hc : countOk c = true)
    (hp : s.pos = .data k) : exec (.wrseq c) s = s.stepOr (s.wrseqByte c k) := by
  simp only [exec, execWrseq, hc, if_true, hp]

theorem exec_rdseq_first {c : BitVec 4} (hc : countOk c = true) (hp : s.pos = .first)
    (hpre : precondition (.rdseq c) s = true) :
    exec (.rdseq c) s = s.stepOr (s.rdseqByte c 0) := by
  simp only [exec, execRdseq, hc, if_true, hp]
  exact if_pos hpre

theorem exec_rdseq_data {c : BitVec 4} {k : Fin 8} (hc : countOk c = true)
    (hp : s.pos = .data k) : exec (.rdseq c) s = s.stepOr (s.rdseqByte c k) := by
  simp only [exec, execRdseq, hc, if_true, hp]

theorem exec_measure_first (hp : s.pos = .first) (hpre : precondition .measure s = true) :
    exec .measure s = s.stepOr (State.measureTrigger { s with retries := 0 }) := by
  rw [exec, execMeasure, hp]
  exact if_pos hpre

theorem exec_measure_trigStart (hp : s.pos = .trigStart) :
    exec .measure s = s.stepOr s.measureTrigger := by
  simp only [exec, execMeasure, hp]

theorem exec_measure_trigAddress (hp : s.pos = .trigAddress) :
    exec .measure s = s.stepOr
      (s.openAddress Config.sensorAddr .write (State.goto (.trigData 0)) State.measureErr) := by
  simp only [exec, execMeasure, hp]

theorem exec_measure_trigData {k : Fin 3} (hp : s.pos = .trigData k) :
    exec .measure s = s.stepOr (s.measureTrigByte k) := by
  simp only [exec, execMeasure, hp]

theorem exec_measure_readStart (hp : s.pos = .readStart) :
    exec .measure s = s.stepOr (s.openStart (State.goto .readAddress) State.measureErr) := by
  simp only [exec, execMeasure, hp]

theorem exec_measure_readAddress (hp : s.pos = .readAddress) :
    exec .measure s = s.stepOr
      (s.openAddress Config.sensorAddr .read (State.goto (.readData 0)) State.measureErr) := by
  simp only [exec, execMeasure, hp]

theorem exec_measure_readData {k : Fin 7} (hp : s.pos = .readData k) :
    exec .measure s = s.stepOr (s.measureReadByte k) := by
  simp only [exec, execMeasure, hp]

/-! ### Every wait of every command -/

/-- The command `i` waits for its event in its step at `s`. -/
def WaitsForItsEvent (i : Instr) (s : State) : Prop :=
  ∃ w, exec i s = s.stepOr w ∧ s.IsWait (waitEvent i s) w

/-- A link command waits in its first step (R74, R76, R77). -/
theorem first_of_waitsHere {i : Instr} (hj : judgesStatus i = false) (h : waitsHere i s) :
    s.pos = .first ∧ precondition i s = true := by
  obtain ⟨-, hpos, -, hend, hpre⟩ := h
  obtain hp | ⟨r, hp, -⟩ := pos_of_not_judgesStatus hj hpos
  · exact ⟨hp, hpre hp⟩
  · exact absurd hp (hend r)

theorem exec_start_waits (h : waitsHere .start s) : WaitsForItsEvent .start s := by
  obtain ⟨hp, hpre⟩ := first_of_waitsHere rfl h
  exact ⟨_, exec_start_first hp hpre, State.linkWait_isWait fun _ _ => rfl⟩

theorem exec_wrb_waits {b : Byte} (h : waitsHere (.wrb b) s) : WaitsForItsEvent (.wrb b) s := by
  obtain ⟨hp, hpre⟩ := first_of_waitsHere rfl h
  exact ⟨_, exec_wrb_first hp hpre, State.linkWait_isWait fun _ _ => rfl⟩

theorem exec_rdb_waits {a : Bool} (h : waitsHere (.rdb a) s) : WaitsForItsEvent (.rdb a) s := by
  obtain ⟨hp, hpre⟩ := first_of_waitsHere rfl h
  exact ⟨_, exec_rdb_first hp hpre, State.linkWait_isWait fun _ _ => rfl⟩

theorem exec_openTxn_waits {a7 : DeviceAddr} {d : Direction} (h : waitsHere (.openTxn a7 d) s) :
    WaitsForItsEvent (.openTxn a7 d) s := by
  obtain ⟨-, hpos, -, hend, hpre⟩ := h
  obtain hp | hp | ⟨r, hp⟩ := pos_of_openTxn hpos
  · refine ⟨_, exec_openTxn_first hp (hpre hp), ?_⟩
    rw [waitEvent, hp]
    exact State.openStart_isWait (atMostStop_goto _) State.raised_history
  · refine ⟨_, exec_openTxn_address hp, ?_⟩
    rw [waitEvent, hp]
    exact State.openAddress_isWait (atMostStop_goto _) State.raised_history a7 d
  · exact absurd hp (hend r)

theorem exec_wrseq_waits {c : BitVec 4} (hc : countOk c = true) (h : waitsHere (.wrseq c) s) :
    WaitsForItsEvent (.wrseq c) s := by
  obtain ⟨-, hpos, -, hend, hpre⟩ := h
  have hwait (k : Fin 8) : s.IsWait (.tx s.buf[k]) (s.wrseqByte c k) :=
    State.writeByte_isWait (atMostStop_goto _) State.raised_history _
  obtain hp | ⟨k, hp⟩ | ⟨r, hp⟩ := pos_of_loop (.inl rfl) hpos
  · exact ⟨_, exec_wrseq_first hc hp (hpre hp), by rw [waitEvent, hp]; exact hwait 0⟩
  · exact ⟨_, exec_wrseq_data hc hp, by rw [waitEvent, hp]; exact hwait k⟩
  · exact absurd hp (hend r)

theorem exec_rdseq_waits {c : BitVec 4} (hc : countOk c = true) (h : waitsHere (.rdseq c) s) :
    WaitsForItsEvent (.rdseq c) s := by
  obtain ⟨-, hpos, -, hend, hpre⟩ := h
  have hwait (k : Fin 8) : s.IsWait (.rx (decide (k.val + 1 < c.toNat))) (s.rdseqByte c k) := by
    rw [← not_isLast]
    exact State.readByte_isWait (atMostStop_goto _) State.raised_history _ _
  obtain hp | ⟨k, hp⟩ | ⟨r, hp⟩ := pos_of_loop (.inr rfl) hpos
  · exact ⟨_, exec_rdseq_first hc hp (hpre hp), by rw [waitEvent, hp]; exact hwait 0⟩
  · exact ⟨_, exec_rdseq_data hc hp, by rw [waitEvent, hp]; exact hwait k⟩
  · exact absurd hp (hend r)

theorem exec_measure_waits (h : waitsHere .measure s) : WaitsForItsEvent .measure s := by
  obtain ⟨-, hpos, hset, hend, hpre⟩ := h
  have haddr (d : Direction) (p : SeqPos) : s.IsWait (.tx (addressByte Config.sensorAddr d))
      (s.openAddress Config.sensorAddr d (State.goto p) State.measureErr) :=
    State.openAddress_isWait (atMostStop_goto _) State.measureErr_history _ _
  unfold WaitsForItsEvent
  rw [waitEvent, measureEvent]
  cases hp : s.pos with
  | first =>
    exact ⟨_, exec_measure_first hp (hpre hp), State.measureTrigger_isWait.congr rfl rfl rfl rfl⟩
  | trigStart => exact ⟨_, exec_measure_trigStart hp, State.measureTrigger_isWait⟩
  | trigAddress => exact ⟨_, exec_measure_trigAddress hp, haddr .write _⟩
  | trigData k =>
    refine ⟨_, exec_measure_trigData hp, ?_⟩
    match k with
    | 0 | 1 | 2 => exact State.measureTrigByte_isWait _
  | settling => exact absurd hp hset
  | readStart =>
    exact ⟨_, exec_measure_readStart hp,
      State.openStart_isWait (atMostStop_goto _) State.measureErr_history⟩
  | readAddress => exact ⟨_, exec_measure_readAddress hp, haddr .read _⟩
  | readData k => exact ⟨_, exec_measure_readData hp, State.measureReadByte_isWait k⟩
  | ending r => exact absurd hp (hend r)
  | address | data => rw [hp] at hpos; cases hpos

/-- A command waits for its event at each of its waits. -/
theorem exec_waits {i : Instr} (hw : i.wf = true) (h : waitsHere i s) : WaitsForItsEvent i s := by
  cases i with
  | start => exact exec_start_waits h
  | wrb b => exact exec_wrb_waits h
  | rdb a => exact exec_rdb_waits h
  | openTxn a7 d => exact exec_openTxn_waits h
  | wrseq c => exact exec_wrseq_waits hw h
  | rdseq c => exact exec_rdseq_waits hw h
  | measure => exact exec_measure_waits h
  | cfg | stop | close | decode | fpush => cases h.1

/-- Settles O23: each step is a wait for its event (`exec_waits`), with no step exactly where it is unanswered. -/
theorem onlyUnansweredUnboundedWaitsHang : Obligations.OnlyUnansweredUnboundedWaitsHang := by
  intro i s hw h
  obtain ⟨w, hexec, hnone, hsome⟩ := exec_waits hw h
  rw [hexec]
  refine ⟨fun hb ha => by rw [hnone.mpr ⟨hb, ha⟩, State.stepOr_none], fun hans => ?_⟩
  cases w with
  | none =>
    obtain ⟨hb, ha⟩ := hnone.mp rfl
    exact absurd hans (by simp [hb, ha])
  | some t =>
    obtain ⟨l, hl⟩ := hsome t rfl
    exact ⟨t, l, State.stepOr_some t, hl⟩

end Sys2Proof.Machine
end

section
/-! SUPPORT. The decoder and encoder (R61 to R67): a row selects the legal words of its op, so the rows are disjoint,
and a word decodes to a command exactly when it is that command's word; the assembler's words; and what a step does
with the word in CMDLATCH. -/

namespace Sys2Proof.Machine

/-! ### The fields of a word -/

/-- A word is its fields side by side (R61). -/
theorem word_eq_fields (w : Word) :
    w = fieldReserved w ++ fieldA w ++ fieldB w ++ fieldN w ++ fieldD w ++ fieldOp w := by
  simp only [fieldReserved, fieldA, fieldB, fieldN, fieldD, fieldOp]
  repeat rw [BitVec.extractLsb'_append_extractLsb'_eq_extractLsb' (by rfl)]
  exact BitVec.extractLsb'_eq_self.symm

/-- Words are compared field by field. -/
theorem word_eq_iff (w v : Word) : w = v ↔
    fieldOp w = fieldOp v ∧ fieldReserved w = fieldReserved v ∧ fieldD w = fieldD v ∧
      fieldN w = fieldN v ∧ fieldB w = fieldB v ∧ fieldA w = fieldA v := by
  constructor
  · rintro rfl
    exact ⟨rfl, rfl, rfl, rfl, rfl, rfl⟩
  · rintro ⟨hop, hres, hd, hn, hb, ha⟩
    rw [word_eq_fields w, word_eq_fields v, hop, hres, hd, hn, hb, ha]

/-- A match under a mask is one of every field. -/
theorem and_eq_iff_fields (w m v : Word) : w &&& m = v ↔
    fieldOp w &&& fieldOp m = fieldOp v ∧ fieldReserved w &&& fieldReserved m = fieldReserved v ∧
      fieldD w &&& fieldD m = fieldD v ∧ fieldN w &&& fieldN m = fieldN v ∧
      fieldB w &&& fieldB m = fieldB v ∧ fieldA w &&& fieldA m = fieldA v := by
  rw [word_eq_iff]
  simp only [fieldOp, fieldReserved, fieldD, fieldN, fieldB, fieldA, BitVec.extractLsb'_and]

/-- A word with no reserved bit is the command word of its fields. -/
theorem commandWord_fields {w : Word} (h : fieldReserved w = 0) :
    commandWord (fieldOp w) (fieldD w) (fieldN w) (fieldB w) (fieldA w) = w := by
  conv_rhs => rw [word_eq_fields w, h]
  rfl

/-! ### The rows of the opcode map -/

/-- The op of a row of the opcode map (R64). -/
def rowOp (o : Opcode) : BitVec 4 := fieldOp o.pattern

theorem mem_opcodeAll (o : Opcode) : o ∈ Opcode.all := by
  cases o <;> decide

/-- No two rows have one op. -/
theorem rowOp_injective {o o' : Opcode} (h : rowOp o = rowOp o') : o = o' :=
  List.inj_on_of_nodup_map (f := rowOp) (l := Opcode.all) (by decide) (mem_opcodeAll o) (mem_opcodeAll o') h

/-- The opcodes with a row are 0x1 to 0xC (R64). -/
theorem exists_rowOp_eq {op : BitVec 4} (h0 : op ≠ 0x0) (hD : ¬ 0xD ≤ op) :
    ∃ o ∈ Opcode.all, rowOp o = op := by
  revert op
  decide

theorem rowOp_in_range (o : Opcode) : rowOp o ≠ 0x0 ∧ ¬ 0xD ≤ rowOp o := by
  cases o <;> decide

/-- The `match` column of R64 holds the op alone. -/
theorem pattern_fields (o : Opcode) :
    fieldOp o.pattern = rowOp o ∧ fieldReserved o.pattern = 0 ∧ fieldD o.pattern = 0 ∧
      fieldN o.pattern = 0 ∧ fieldB o.pattern = 0 ∧ fieldA o.pattern = 0 := by
  cases o <;> decide

/-- The `mask` column of R64: a row's mask leaves out the fields its op uses. -/
theorem mask_fields (o : Opcode) :
    fieldOp o.mask = .allOnes 4 ∧ fieldReserved o.mask = .allOnes 9 ∧
    fieldD o.mask = (if rowOp o = 0x5 ∨ rowOp o = 0x6 then 0 else .allOnes 1) ∧
    fieldN o.mask = (if rowOp o = 0x7 ∨ rowOp o = 0x8 then 0 else .allOnes 3) ∧
    fieldB o.mask = (if rowOp o = 0x1 ∨ rowOp o = 0x4 then 0 else .allOnes 8) ∧
    fieldA o.mask = (if rowOp o = 0x6 then 0 else .allOnes 7) := by
  cases o <;> decide

/-- A field under its mask is 0: the mask leaves it out, or it is 0 itself. -/
theorem and_ite_eq_zero_iff {n : Nat} (x : BitVec n) (p : Prop) [Decidable p] :
    x &&& (if p then 0 else .allOnes n) = 0 ↔ x = 0 ∨ p := by
  by_cases hp : p <;> simp [hp]

/-- The legal words: an opcode of the map, no reserved bit, and no bit of a field the opcode does not use (R66). -/
theorem not_illegalWord_iff (w : Word) : ¬ illegalWord w ↔
    (fieldOp w ≠ 0x0 ∧ ¬ 0xD ≤ fieldOp w) ∧ fieldReserved w = 0 ∧
    (fieldD w = 0 ∨ fieldOp w = 0x5 ∨ fieldOp w = 0x6) ∧
    (fieldN w = 0 ∨ fieldOp w = 0x7 ∨ fieldOp w = 0x8) ∧
    (fieldB w = 0 ∨ fieldOp w = 0x1 ∨ fieldOp w = 0x4) ∧ (fieldA w = 0 ∨ fieldOp w = 0x6) := by
  simp only [illegalWord, not_or, not_and_or, ne_eq, not_not, and_assoc]

/-- A row selects the legal words of its op (R64, R66). -/
theorem selects_iff (o : Opcode) (w : Word) :
    o.selects w = true ↔ fieldOp w = rowOp o ∧ ¬ illegalWord w := by
  obtain ⟨hop, hres, hd, hn, hb, ha⟩ := pattern_fields o
  obtain ⟨mop, mres, md, mn, mb, ma⟩ := mask_fields o
  rw [Opcode.selects, beq_iff_eq, and_eq_iff_fields, mop, mres, md, mn, mb, ma, hop, hres, hd, hn, hb,
    ha, BitVec.and_allOnes, BitVec.and_allOnes]
  refine and_congr_right fun h => ?_
  simp only [and_ite_eq_zero_iff]
  rw [not_illegalWord_iff, h, and_iff_right (rowOp_in_range o)]

/-- Settles O12: the op of a word names the one row that can select it. -/
theorem atMostOneRowSelectsAWord : Obligations.AtMostOneRowSelectsAWord := by
  intro w o o' h h'
  obtain ⟨hop, -⟩ := (selects_iff o w).mp h
  obtain ⟨hop', -⟩ := (selects_iff o' w).mp h'
  exact rowOp_injective (hop.symm.trans hop')

/-! ### The decoder -/

/-- A decoded command is the selected row's (R65). -/
theorem decodeWord_eq_ok_iff_row (w : Word) (i : Instr) :
    decodeWord w = .ok i ↔ ∃ o : Opcode, o.selects w = true ∧ o.instr w = i := by
  unfold decodeWord
  split
  next o hf =>
    have ho : o.selects w = true := List.find?_some (p := fun o : Opcode => o.selects w) hf
    constructor
    · intro h
      exact ⟨o, ho, by simpa using h⟩
    · rintro ⟨o', ho', rfl⟩
      rw [atMostOneRowSelectsAWord w o o' ho ho']
  next hf =>
    have hno := List.find?_eq_none.mp hf
    constructor
    · nofun
    · rintro ⟨o, ho, -⟩
      exact absurd ho (hno o (mem_opcodeAll o))

/-- The words that decode to no command are those of R66. -/
theorem decodeWord_eq_error_iff (w : Word) :
    (∃ e, decodeWord w = .error e) ↔ illegalWord w := by
  constructor
  · rintro ⟨e, he⟩
    by_contra hlegal
    obtain ⟨⟨h0, hD⟩, -⟩ := (not_illegalWord_iff w).mp hlegal
    obtain ⟨o, -, ho⟩ := exists_rowOp_eq h0 hD
    have hok := (decodeWord_eq_ok_iff_row w (o.instr w)).mpr
      ⟨o, (selects_iff o w).mpr ⟨ho.symm, hlegal⟩, rfl⟩
    rw [he] at hok
    cases hok
  · intro hill
    cases hd : decodeWord w with
    | error e => exact ⟨e, rfl⟩
    | ok i =>
      obtain ⟨o, ho, -⟩ := (decodeWord_eq_ok_iff_row w i).mp hd
      exact absurd hill ((selects_iff o w).mp ho).2

/-! ### Decoding and encoding -/

theorem countField_countOf (w : Word) : countField (countOf w) = fieldN w := by
  have h : ∀ x : BitVec 3, countField (x.zeroExtend 4 + 1) = x := by decide
  exact h (fieldN w)

theorem ofBool_beq_one (d : BitVec 1) : BitVec.ofBool (d == 1) = d := by
  revert d
  decide

theorem bit_ofBit (d : BitVec 1) : (Direction.ofBit d).bit = d := by
  revert d
  decide

/-- The encoding of a row's command: the row's op, and of the word's fields those the op uses (R61, R63). -/
theorem encode_instr (o : Opcode) (w : Word) :
    encode (o.instr w) = commandWord (rowOp o)
      (if rowOp o = 0x5 ∨ rowOp o = 0x6 then fieldD w else 0)
      (if rowOp o = 0x7 ∨ rowOp o = 0x8 then fieldN w else 0)
      (if rowOp o = 0x1 ∨ rowOp o = 0x4 then fieldB w else 0)
      (if rowOp o = 0x6 then fieldA w else 0) := by
  cases o with
  | rdb => exact congrArg (commandWord 0x5 · 0 0 0) (ofBool_beq_one _)
  | openTxn => exact congrArg (commandWord 0x6 · 0 0 (fieldA w)) (bit_ofBit _)
  | wrseq => exact congrArg (commandWord 0x7 0 · 0 0) (countField_countOf w)
  | rdseq => exact congrArg (commandWord 0x8 0 · 0 0) (countField_countOf w)
  | _ => rfl

/-- A field that is used or 0 is the field with 0 put where it is not used. -/
theorem ite_zero_eq_self {n : Nat} {x : BitVec n} {p : Prop} [Decidable p] (h : x = 0 ∨ p) :
    (if p then x else 0) = x := by
  rcases h with rfl | hp
  · exact ite_self 0
  · exact if_pos hp

/-- The command a row reads from a word it selects has that word: no bit of it is dropped (R66). -/
theorem encode_instr_of_selects {o : Opcode} {w : Word} (h : o.selects w = true) :
    encode (o.instr w) = w := by
  obtain ⟨hop, hlegal⟩ := (selects_iff o w).mp h
  obtain ⟨-, hres, hd, hn, hb, ha⟩ := (not_illegalWord_iff w).mp hlegal
  rw [encode_instr, ← hop, ite_zero_eq_self hd, ite_zero_eq_self hn, ite_zero_eq_self hb,
    ite_zero_eq_self ha, commandWord_fields hres]

/-- The word of a well-formed command selects its row, which reads the command back (R63, R64). -/
theorem rowMatch (i : Instr) : Laws.RowMatch.Statement i := by
  cases i with
  | cfg b => exact Laws.RowMatch.cfg b
  | start => exact Laws.RowMatch.start
  | stop => exact Laws.RowMatch.stop
  | wrb b => exact Laws.RowMatch.wrb b
  | rdb ack => exact Laws.RowMatch.rdb ack
  | openTxn a7 d => exact Laws.RowMatch.openTxn a7 d
  | wrseq n => exact Laws.RowMatch.wrseq n
  | rdseq n => exact Laws.RowMatch.rdseq n
  | close => exact Laws.RowMatch.close
  | decode => exact Laws.RowMatch.decode
  | fpush => exact Laws.RowMatch.fpush
  | measure => exact Laws.RowMatch.measure

/-- A word decodes to a command exactly when the command is well formed and the word is its encoding. -/
theorem decodeWord_eq_ok_iff (w : Word) (i : Instr) :
    decodeWord w = .ok i ↔ i.wf = true ∧ encode i = w := by
  constructor
  · intro h
    refine ⟨wf_of_decodeWord h, ?_⟩
    obtain ⟨o, ho, rfl⟩ := (decodeWord_eq_ok_iff_row w i).mp h
    exact encode_instr_of_selects ho
  · rintro ⟨hwf, rfl⟩
    exact (decodeWord_eq_ok_iff_row _ i).mpr ⟨_, rowMatch i hwf⟩

/-- Settles O10: the word of a well-formed command selects its row, and the row reads the command back. -/
theorem decodeOfEncodeIsTheCommand : Obligations.DecodeOfEncodeIsTheCommand :=
  fun i hwf => (decodeWord_eq_ok_iff (encode i) i).mpr ⟨hwf, rfl⟩

/-- Settles O11: a selected word holds the row's op and nothing but fields that op uses, and so does the
encoding. -/
theorem decodedWordIsTheCommandsOnlyWord : Obligations.DecodedWordIsTheCommandsOnlyWord :=
  fun w i => (decodeWord_eq_ok_iff w i).mp

/-- Settles O15: each word is the encoding of its command. -/
theorem exampleWordsDecode : Obligations.ExampleWordsDecode :=
  ⟨(decodeWord_eq_ok_iff _ _).mpr ⟨rfl, rfl⟩, (decodeWord_eq_ok_iff _ _).mpr ⟨rfl, rfl⟩,
    (decodeWord_eq_ok_iff _ _).mpr ⟨rfl, rfl⟩, (decodeWord_eq_ok_iff _ _).mpr ⟨rfl, rfl⟩,
    (decodeWord_eq_ok_iff _ _).mpr ⟨rfl, rfl⟩, (decodeWord_eq_ok_iff _ _).mpr ⟨rfl, rfl⟩⟩

/-! ### Steps for the word in CMDLATCH -/

/-- An illegal word ends at once with ILLEGAL (R66). -/
theorem sequencerStep_of_illegalWord {s : State} (hb : s.busy = true) (hw : illegalWord s.cmdLatch) :
    sequencerStep s = .next (s.finish .illegal) := by
  obtain ⟨e, he⟩ := (decodeWord_eq_error_iff s.cmdLatch).mpr hw
  simp [sequencerStep, hb, he]

/-- ILLEGAL sets RESULT and ERR and ends the command, and nothing else (R107). -/
theorem finish_illegal (s : State) : s.finish .illegal =
    { s with result := .illegal, err := true, busy := false, pos := .first } := by
  simp [State.finish, Result.setsErr]

/-- Settles O13: a word outside the rows is illegal and conversely, and its step is the finish with ILLEGAL. -/
theorem illegalWordEndsWithIllegal : Obligations.IllegalWordEndsWithIllegal := by
  refine ⟨decodeWord_eq_error_iff, fun s u hw hb hu => ?_⟩
  have heq := State.sequencerTurn_eq hu
  rw [step_of_sequencerTurn hu, ← finish_illegal]
  exact sequencerStep_of_illegalWord (by rw [heq]; exact hb) (by rw [heq]; exact hw)

/-- The SEQUENCER's turn with BUSY = 1 runs the command in CMDLATCH (R65). -/
theorem step_of_decodeWord {s u : State} {i : Instr} (hb : s.busy = true) (hu : s.sequencerTurn = some u)
    (hd : decodeWord s.cmdLatch = .ok i) : step s = exec i u := by
  have heq := State.sequencerTurn_eq hu
  rw [step_of_sequencerTurn hu]
  exact sequencerStep_of_decodeWord (by rw [heq]; exact hb) (by rw [heq]; exact hd)

/-- A whole command word stands in the table as itself (R62). -/
theorem tableWord_toNat (w : Word) : tableWord 32 w.toNat = w := by
  rw [tableWord, Nat.mod_eq_of_lt w.isLt, BitVec.ofNat_toNat, BitVec.setWidth_eq]

/-- Settles O16: CMDLATCH after `withFetchWord` holds the command's word, which decodes to it, and a WAIT is one
pass of its loop. -/
theorem stepRunsTheLatchedCommand : Obligations.StepRunsTheLatchedCommand := by
  refine ⟨fun s u i => step_of_decodeWord, fun s i hwf => ?_, fun s rest ha => ?_⟩
  · rw [State.withFetchWord, tableWord_toNat]
    exact step_of_decodeWord rfl rfl (decodeOfEncodeIsTheCommand i hwf)
  · rw [← State.waitPass_eq]
    simp [step, turnStep, ha]

/-! ### The assembler's words -/

/-- A command word is its fields shifted to their places (R61). -/
theorem toNat_commandWord (op : BitVec 4) (d : BitVec 1) (n : BitVec 3) (b : Byte) (a : DeviceAddr) :
    (commandWord op d n b a).toNat =
      a.toNat <<< 16 ||| b.toNat <<< 8 ||| n.toNat <<< 5 ||| d.toNat <<< 4 ||| op.toNat := by
  unfold commandWord
  iterate 5 rw [BitVec.toNat_append]
  simp [Nat.shiftLeft_or_distrib, ← Nat.shiftLeft_add]

/-- An operand in its range spells the word, and one out of it spells none (R67). -/
theorem inRange_eq_encode {ok : Bool} {word : Nat} {p : Prop} [Decidable p] {i : Instr}
    (hok : ok = true ↔ p) (h : p → (encode i).toNat = word) :
    inRange ok word = if p then some (encode i) else none := by
  unfold inRange
  by_cases hp : p
  · rw [if_pos (hok.mpr hp), if_pos hp, ← h hp, BitVec.ofNat_toNat, BitVec.setWidth_eq]
  · rw [if_neg (mt hok.mp hp), if_neg hp]

/-- The count field of 1 to 8 is the count minus 1 (R63, R67). -/
theorem toNat_countField {k : Nat} (h : 1 ≤ k ∧ k ≤ 8) :
    (countField (BitVec.ofNat 4 k)).toNat = k - 1 := by
  obtain ⟨h1, h8⟩ := h
  interval_cases k <;> rfl

/-- Settles O14: an operand in its range is its field, at the field's place in the word. -/
theorem assemblerWordsAreTheEncodings : Obligations.AssemblerWordsAreTheEncodings := by
  intro k
  refine ⟨inRange_eq_encode (by simp) fun h => ?_, inRange_eq_encode (by simp) fun h => ?_,
    inRange_eq_encode (by simp) fun h => ?_, inRange_eq_encode (by simp) fun h => ?_,
    inRange_eq_encode (by simp) fun h => ?_, inRange_eq_encode (by simp) fun h => ?_,
    rfl, rfl, rfl, rfl, rfl, rfl, rfl, rfl⟩
  · simp [encode, toNat_commandWord, Nat.mod_eq_of_lt (Nat.lt_succ_of_le h)]
  · simp [encode, toNat_commandWord, Nat.mod_eq_of_lt (Nat.lt_succ_of_le h)]
  · simp [encode, toNat_commandWord, Nat.mod_eq_of_lt (Nat.lt_succ_of_le h), Direction.bit]
  · simp [encode, toNat_commandWord, Nat.mod_eq_of_lt (Nat.lt_succ_of_le h), Direction.bit, Nat.or_assoc]
  · simp [encode, toNat_commandWord, toNat_countField h]
  · simp [encode, toNat_commandWord, toNat_countField h]

end Sys2Proof.Machine
end

section
/-! SUPPORT. The Bus Link Layer (R70 to R77, R85): a false precondition, the steps of the commands that wait for
nothing, and the two steps of a link command, its bus wait and its end. -/

namespace Sys2Proof.Machine

variable {s t : State} {i : Instr}

/-! ### Command ends -/

/-- USAGE sets RESULT and ERR and ends the command, and nothing else (R107, R110). -/
theorem finish_usage (s : State) : s.finish .usage = s.usageEnd := by
  simp [State.finish, State.usageEnd, Result.setsErr]

/-- A result other than USAGE and ILLEGAL leaves ERR (R107). -/
theorem finish_of_setsErr_eq_false {r : Result} (hr : r.setsErr = false) :
    s.finish r = { s with result := r, busy := false, pos := .first } := by
  simp [State.finish, hr]

/-- A command stopped by its precondition changes only RESULT, ERR and BUSY (R110). -/
theorem exec_of_precondition_eq_false (hw : i.wf = true) (hp : s.pos = .first)
    (hpre : precondition i s = false) : exec i s = .next s.usageEnd := by
  rw [← finish_usage]
  cases i with
  | cfg b =>
    have ha : s.busActive = true := by simpa [precondition] using hpre
    simp only [exec, execCfg, hp, if_pos ha]
  | decode => cases hpre
  | wrseq c | rdseq c =>
    have hc : countOk c = true := hw
    simp only [exec, execWrseq, execRdseq, hc, if_true, hp]
    exact if_neg (ne_true_of_eq_false hpre)
  | start | stop | wrb | rdb | openTxn | close | fpush | measure =>
    simp only [exec, execStart, execStop, execWrb, execRdb, execOpenTxn, execClose, execFpush,
      execMeasure, hp]
    exact if_neg (ne_true_of_eq_false hpre)

/-- The end of a command that waited for the bus (R107). -/
theorem exec_of_ending {r : Result} (hw : i.wf = true) (hb : waitsOnBus i = true)
    (hp : s.pos = .ending r) : exec i s = .next (s.finish r) := by
  cases i with
  | cfg | stop | close | decode | fpush => cases hb
  | wrseq c | rdseq c =>
    have hc : countOk c = true := hw
    simp only [exec, execWrseq, execRdseq, hc, if_true, hp]
  | start | wrb | rdb | openTxn | measure =>
    simp only [exec, execStart, execWrb, execRdb, execOpenTxn, execMeasure, hp]

/-! ### The commands that wait for nothing -/

theorem exec_cfg_first {b : Byte} (hp : s.pos = .first) (ha : s.busActive = false) :
    exec (.cfg b) s = .next (State.finish .ok { s with busDiv := b, configured := true }) := by
  simp only [exec, execCfg, hp, ha, Bool.false_eq_true, if_false]

theorem exec_stop_first (hp : s.pos = .first) (hc : s.configured = true) :
    exec .stop s = .next (s.stop.finish .ok) := by
  simp only [exec, execStop, hp, if_pos hc]

/-- CLOSE has the same effect as STOP (R85). -/
theorem exec_close_eq_exec_stop (s : State) : exec .close s = exec .stop s := rfl

theorem exec_decode_first_of_frameBusy (hp : s.pos = .first) (hf : s.frameBusy = true) :
    exec .decode s = .next (State.finish .sensorBusy { s with decValid := false }) := by
  simp only [exec, execDecode, hp, if_pos hf]

theorem exec_decode_first_of_not_frameBusy (hp : s.pos = .first) (hf : s.frameBusy = false) :
    exec .decode s = .next (s.decodeFrame.finish .ok) := by
  simp only [exec, execDecode, hp, hf, Bool.false_eq_true, if_false]

theorem exec_fpush_first (hp : s.pos = .first) (hd : s.decValid = true) :
    exec .fpush s = .next ((s.push s.rawH s.rawT).finish .ok) := by
  simp only [exec, execFpush, hp, if_pos hd]

/-- RequireConfigured is part of the precondition of each command that runs it (R70, R110). -/
theorem precondition_of_needsConfigured (hn : needsConfigured i = true)
    (hc : s.configured = false) : precondition i s = false := by
  cases i with
  | cfg | decode | fpush => cases hn
  | _ => simp [precondition, hc]

/-- DECODE ends with OK or SENSOR_BUSY and emits nothing (R94). -/
theorem exec_decode_first_history (hp : s.pos = .first) :
    ∃ t, exec .decode s = .next t ∧ t.result ≠ .usage ∧ t.history = s.history := by
  cases hf : s.frameBusy
  · exact ⟨_, exec_decode_first_of_not_frameBusy hp hf, nofun, rfl⟩
  · exact ⟨_, exec_decode_first_of_frameBusy hp hf, nofun, rfl⟩

/-- Settles O20: the nine commands by their precondition, CFG, DECODE and FPUSH by their own steps. -/
theorem unconfiguredBusCommandIsStopped : Obligations.UnconfiguredBusCommandIsStopped := by
  intro s hp hc
  refine ⟨fun i hw hn => ?_, fun b ha => ?_, exec_decode_first_history hp, fun hd => ?_⟩
  · exact exec_of_precondition_eq_false hw hp (precondition_of_needsConfigured hn hc)
  · exact ⟨_, exec_cfg_first hp ha, rfl, rfl⟩
  · exact ⟨_, exec_fpush_first hp hd, rfl, rfl⟩

/-- Settles O26: the step on an idle bus, and the precondition on an active one. -/
theorem cfgSetsTheDivisor : Obligations.CfgSetsTheDivisor := by
  intro b s hp
  refine ⟨fun ha => ?_, fun ha => ?_⟩
  · rw [exec_cfg_first hp ha, finish_of_setsErr_eq_false rfl, ← hp]
  · exact exec_of_precondition_eq_false rfl hp (by simp [precondition, ha])

/-- `Stop()` emits P, with its effect on BUS_ACTIVE, and closes the transaction (R71). -/
theorem State.stop_eq (s : State) : s.stop =
    { s with history := s.history ++ [.stop], busActive := false, txnOpen := false } := rfl

/-- Settles O28: CLOSE is STOP, whose step is `Stop()` and the finish with OK. -/
theorem stopAndCloseEmitStop : Obligations.StopAndCloseEmitStop := by
  intro i s hi hp
  have hstop : exec i s = exec .stop s := by
    obtain rfl | rfl := hi
    · rfl
    · exact exec_close_eq_exec_stop s
  rw [hstop]
  refine ⟨fun hc => ?_, fun hc => ?_⟩
  · rw [exec_stop_first hp hc, finish_of_setsErr_eq_false rfl, State.stop_eq, ← hp]
  · exact exec_of_precondition_eq_false rfl hp hc

/-! ### The commands that wait once -/

/-- `i` is a command of the Bus Link Layer that waits for the event `e` in its step at `s`, and `f` is what it does
with the data byte of the answer (R72). -/
def LinkWaits (i : Instr) (s : State) (e : BusEvent) (f : Byte → State → State) : Prop :=
  i.wf = true ∧ waitsOnBus i = true ∧ exec i s = s.stepOr (s.linkWait e f)

theorem start_linkWaits (hp : s.pos = .first) (hc : s.configured = true) :
    LinkWaits .start s s.startEvent (fun _ t => t) :=
  ⟨rfl, rfl, exec_start_first hp hc⟩

theorem wrb_linkWaits {b : Byte} (hp : s.pos = .first) (hc : s.configured = true)
    (ha : s.busActive = true) : LinkWaits (.wrb b) s (.tx b) (fun _ t => t) :=
  ⟨rfl, rfl, exec_wrb_first hp (by simp [precondition, hc, ha])⟩

theorem rdb_linkWaits {a : Bool} (hp : s.pos = .first) (hc : s.configured = true)
    (ha : s.busActive = true) :
    LinkWaits (.rdb a) s (.rx a) (fun d t => { t with buf := t.buf.set 0 d }) :=
  ⟨rfl, rfl, exec_rdb_first hp (by simp [precondition, hc, ha])⟩

section
variable {e : BusEvent} {f : Byte → State → State} {v : State} (h : LinkWaits i s e f)
include h

/-- An answered link command: its wait leaves `v`, and its next step ends it with OK whatever the status (R72). -/
theorem LinkWaits.done {st x : Byte} (hn : s.nextAnswer = (.done st x, t))
    (hv : (f x { t.emit e with lastBusStatus := st }).goto (.ending .ok) = v) :
    ∃ u, exec i s = .next u ∧ u = v ∧
      exec i u = .next { u with result := .ok, busy := false, pos := .first } := by
  obtain ⟨hw, hb, hexec⟩ := h
  refine ⟨v, ?_, rfl, ?_⟩
  · rw [hexec, State.linkWait, State.waited_done hn, State.stepOr_some, hv]
  · rw [exec_of_ending hw hb (r := .ok) (by rw [← hv]; rfl), finish_of_setsErr_eq_false rfl]

/-- A link command that times out: its wait leaves `v`, and its next step ends it with BUS_TIMEOUT (R72, R118). -/
theorem LinkWaits.timeout (hn : s.nextAnswer = (.silent, t)) (hbound : s.params.waitBound ≠ 0)
    (hv : (t.emit e).goto (.ending .busTimeout) = v) :
    ∃ u, exec i s = .next u ∧ u = v ∧
      exec i u = .next { u with result := .busTimeout, busy := false, pos := .first } := by
  obtain ⟨hw, hb, hexec⟩ := h
  refine ⟨v, ?_, rfl, ?_⟩
  · rw [hexec, State.linkWait, State.waited_timeout hn hbound, State.stepOr_some, hv]
  · rw [exec_of_ending hw hb (r := .busTimeout) (by rw [← hv]; rfl), finish_of_setsErr_eq_false rfl]

end

/-- Taking an answer leaves H (R52). -/
theorem history_of_nextAnswer {a : BusAnswer} (hn : s.nextAnswer = (a, t)) :
    t.history = s.history := by
  simpa [hn] using State.nextAnswer_history s

/-- Taking an answer leaves BUF (R52). -/
theorem buf_of_nextAnswer {a : BusAnswer} (hn : s.nextAnswer = (a, t)) : t.buf = s.buf := by
  simpa [hn] using State.nextAnswer_buf s

/-- S and Sr make the bus active (R22, R74). -/
theorem emit_startEvent (s t : State) : t.emit s.startEvent = { t with
    history := t.history ++ [if s.busActive then .repStart else .start], busActive := true } := by
  unfold State.startEvent
  split <;> rfl

/-- The received byte is stored in BUF[0] (R77). -/
theorem buf_set_zero (b : Vector Byte 8) (x : Byte) :
    b.set 0 x = #v[x, b[1], b[2], b[3], b[4], b[5], b[6], b[7]] := by
  rw [vector_eq_literal (b.set 0 x)]
  simp

/-- Settles O27: START's wait for S or Sr, answered or timed out, and its end. -/
theorem startEmitsStartOrRepeatedStart : Obligations.StartEmitsStartOrRepeatedStart := by
  intro s hp
  refine ⟨fun hc => ?_, fun hc st x t hn => ?_, fun hc hbound t hn => ?_⟩
  · exact exec_of_precondition_eq_false rfl hp hc
  · exact (start_linkWaits hp hc).done hn (by rw [emit_startEvent, history_of_nextAnswer hn]; rfl)
  · exact (start_linkWaits hp hc).timeout hn hbound (by
      rw [emit_startEvent, history_of_nextAnswer hn]; rfl)

/-- Settles O29: WRB's wait for its byte, answered or timed out, and its end. -/
theorem wrbSendsItsByte : Obligations.WrbSendsItsByte := by
  intro b s hp
  refine ⟨fun hc => ?_, fun hc ha st x t hn => ?_, fun hc ha hbound t hn => ?_⟩
  · exact exec_of_precondition_eq_false rfl hp (Bool.and_eq_false_iff.mpr hc)
  · exact (wrb_linkWaits hp hc ha).done hn (by rw [← history_of_nextAnswer hn]; rfl)
  · exact (wrb_linkWaits hp hc ha).timeout hn hbound (by rw [← history_of_nextAnswer hn]; rfl)

/-- Settles O30: RDB's wait for its byte, which is stored where it is answered, and its end. -/
theorem rdbReceivesIntoBufZero : Obligations.RdbReceivesIntoBufZero := by
  intro ack s hp
  refine ⟨fun hc => ?_, fun hc ha st x t hn => ?_, fun hc ha hbound t hn => ?_⟩
  · exact exec_of_precondition_eq_false rfl hp (Bool.and_eq_false_iff.mpr hc)
  · exact (rdb_linkWaits hp hc ha).done hn (by
      rw [← history_of_nextAnswer hn, ← buf_set_zero, ← buf_of_nextAnswer hn]; rfl)
  · exact (rdb_linkWaits hp hc ha).timeout hn hbound (by rw [← history_of_nextAnswer hn]; rfl)

end Sys2Proof.Machine
end

section
/-! SUPPORT. The discipline of R88 over every step: an engine-only HOST with P_ABORT_STOP = 1 never makes OpenSeq
start on an active bus, so it sees no Sr. -/

namespace Sys2Proof.Machine

variable {s t : State} {i : Instr}

/-! ### The event of a step -/

theorem exec_measure_settling (hp : s.pos = .settling) : exec .measure s =
    .next (State.goto .readStart { s.settle with seqState := .reading }) := by
  simp only [exec, execMeasure, hp]

/-- A step that is no bus wait emits at most one P or the settling marker (R66, R71, R107, R117). -/
theorem exec_history_of_not_waitsHere (hw : i.wf = true) (hp : posBelongs i s.pos = true)
    (hn : ¬ waitsHere i s) (h : exec i s = .next t) :
    ∃ l, t.history = s.history ++ l ∧ (l = [] ∨ l = [.stop] ∨ l = [.settle]) := by
  cases hb : waitsOnBus i with
  | false =>
    cases execStep_of_exec h with
    | usage | cfg | decodesBusy | decodes | pushes => exact ⟨[], (List.append_nil _).symm, .inl rfl⟩
    | stops => exact ⟨[.stop], rfl, .inr (.inl rfl)⟩
    | ends _ hb' | unanswered hb' => simp [hb] at hb'
    | fails _ hj => simp [waitsOnBus_of_judgesStatus hj] at hb
    | _ => cases hb
  | true =>
    by_cases hset : s.pos = .settling
    · obtain rfl : i = .measure := by simpa [hset, posBelongs] using hp
      cases (exec_measure_settling hset).symm.trans h
      exact ⟨[.settle], rfl, .inr (.inr rfl)⟩
    by_cases hend : ∃ r, s.pos = .ending r
    · obtain ⟨r, hr⟩ := hend
      cases (exec_of_ending hw hb hr).symm.trans h
      exact ⟨[], (List.append_nil _).symm, .inl rfl⟩
    · obtain ⟨hfirst, hpre⟩ : s.pos = .first ∧ precondition i s = false := by
        by_contra hc
        exact hn ⟨hb, hp, hset, fun r hr => hend ⟨r, hr⟩, by simpa using hc⟩
      cases (exec_of_precondition_eq_false hw hfirst hpre).symm.trans h
      exact ⟨[], (List.append_nil _).symm, .inl rfl⟩

/-- The only way a command comes to emit Sr is a bus wait whose event it is (R51). -/
theorem repStart_mem_of_exec (hw : i.wf = true) (hp : posBelongs i s.pos = true)
    (h : exec i s = .next t) (hr : .repStart ∈ t.history) :
    .repStart ∈ s.history ∨ waitsHere i s ∧ waitEvent i s = .repStart := by
  by_cases hwait : waitsHere i s
  · obtain ⟨w, hexec, -, hsome⟩ := exec_waits hw hwait
    obtain hw | ⟨-, rfl⟩ := State.stepOr_cases (hexec ▸ h)
    · obtain ⟨l, hl, hstop⟩ := hsome t hw
      have hev : waitEvent i s = .repStart ∨ .repStart ∈ s.history := by
        obtain rfl | rfl := hstop <;> simpa [hl, eq_comm, or_comm] using hr
      exact hev.symm.imp_right fun he => ⟨hwait, he⟩
    · exact .inl (by simpa using hr)
  · obtain ⟨l, hl, hquiet⟩ := exec_history_of_not_waitsHere hw hp hwait h
    left
    obtain rfl | rfl | rfl := hquiet <;> simpa [hl] using hr

/-- The Decoding state emits nothing (R96). -/
theorem State.measureDecode_busActive (s : State) : s.measureDecode.busActive = s.busActive := by
  rw [State.measureDecode_frame]

/-! ### The bus is idle where OpenSeq starts -/

/-- The positions at which OPEN and MEASURE start OpenSeq, the precondition passed (R79, R82, R95). -/
def State.StartsOpenSeq (s : State) : Prop :=
  s.pos = .first ∧ s.txnOpen = false ∨ s.pos = .trigStart ∨ s.pos = .readStart

/-- OPEN and MEASURE start OpenSeq with no transaction open (R82, R95). -/
theorem txnOpen_of_precondition (ho : opensTransaction i = true) (hpre : precondition i s = true) :
    s.txnOpen = false := by
  cases i with
  | openTxn | measure =>
    simp only [precondition, Bool.and_eq_true, Bool.not_eq_true'] at hpre
    exact hpre.2
  | _ => cases ho

/-- Of the commands of R88, only those that start OpenSeq on an active bus emit Sr. -/
theorem opensActiveBus_of_waitEvent_eq_repStart (hi : engineCommand i = true) (h : waitsHere i s)
    (he : waitEvent i s = .repStart) : s.busActive = true ∧ s.StartsOpenSeq := by
  obtain ⟨hb, hp, hset, hend, hpre⟩ := h
  cases i with
  | cfg | close | decode | fpush => cases hb
  | start | stop | wrb | rdb => cases hi
  | wrseq | rdseq => simp only [waitEvent] at he; split at he <;> cases he
  | openTxn a7 d =>
    obtain hfirst | haddr | ⟨r, hr⟩ := pos_of_openTxn hp
    · exact ⟨by simpa [waitEvent, hfirst] using he,
        .inl ⟨hfirst, txnOpen_of_precondition rfl (hpre hfirst)⟩⟩
    · simp [waitEvent, haddr] at he
    · exact absurd hr (hend r)
  | measure =>
    obtain ⟨hstart, ha⟩ :
        (s.pos = .first ∨ s.pos = .trigStart ∨ s.pos = .readStart) ∧ s.busActive = true := by
      cases hpos : s.pos with
      | first | trigStart | readStart => simpa [waitEvent, measureEvent, hpos] using he
      | trigData k => fin_cases k <;> simp [waitEvent, measureEvent, hpos] at he
      | trigAddress | readAddress | readData => simp [waitEvent, measureEvent, hpos] at he
      | settling => exact absurd hpos hset
      | ending r => exact absurd hpos (hend r)
      | address | data => rw [hpos] at hp; cases hp
    exact ⟨ha, hstart.imp_left fun hfirst => ⟨hfirst, txnOpen_of_precondition rfl (hpre hfirst)⟩⟩

section
variable (hinv : s.Inv) (heng : s.EngineInv)
include heng

/-- Outside OpenSeq an active bus has an open transaction (R88). -/
theorem State.EngineInv.txnOpen_of_busActive (ha : s.busActive = true)
    (hp : ¬ (s.pos = .address ∨ s.pos = .trigAddress ∨ s.pos = .readAddress)) :
    s.txnOpen = true :=
  (heng.closed ha).resolve_right hp

/-- A command of R88 leaves the bus active only in a transaction or its opening. -/
theorem State.EngineInv.execStep_closed (hi : engineCommand i = true) (h : ExecStep s i t)
    (ha : t.busActive = true) : t.txnOpen = true ∨ t.pos = .address ∨ t.pos = .trigAddress
      ∨ t.pos = .readAddress := by
  have hstay := heng.txnOpen_of_busActive
  cases h with
  | usage hp | cfg hp | decodesBusy hp | decodes hp | pushes hp | ends hp =>
    exact .inl (hstay ha (by simp [hp]))
  | unanswered => simpa using heng.closed (by simpa using ha)
  | stops | triggered => cases ha
  | readLast => simp [State.measureRead, State.measureDecode_busActive] at ha
  | fails | measureFails =>
    simp [State.raised, State.measureErr, State.fail_busActive, State.afterEvent,
      heng.abortStop] at ha
  | start | wrb | rdb | rdbTimeout => cases hi
  | openStart => exact .inr (.inl rfl)
  | trigStart => exact .inr (.inr (.inl rfl))
  | readStart => exact .inr (.inr (.inr rfl))
  | openAddress | trigAddress | readAddress => exact .inl rfl
  | wrseqByte _ hp | rdseqByte _ hp =>
    exact .inl (hstay ha (by obtain hp | ⟨hp, -⟩ := hp <;> simp [hp]))
  | trigByte hp | readByte hp | settles hp => exact .inl (hstay ha (by simp [hp]))

include hinv

/-- The bus is idle where OpenSeq starts (R88). -/
theorem State.EngineInv.idle_of_startsOpenSeq (h : s.StartsOpenSeq) : s.busActive = false := by
  obtain ⟨hp, hopen⟩ | hp | hp := h
  · by_contra ha
    simp [heng.txnOpen_of_busActive (by simpa using ha) (by simp [hp])] at hopen
  · have hbus := hinv.bus
    simp only [hp, busFits, Bool.and_eq_true, Bool.not_eq_true'] at hbus
    exact hbus.1
  · have hbus := hinv.bus
    simp only [hp, busFits, Bool.and_eq_true, Bool.not_eq_true'] at hbus
    exact hbus.1

/-- A command of R88 emits no Sr. -/
theorem State.EngineInv.exec_noRepStart (hw : i.wf = true) (hp : posBelongs i s.pos = true)
    (hi : engineCommand i = true) (h : exec i s = .next t) : .repStart ∉ t.history := by
  intro hr
  obtain hr | ⟨hwait, he⟩ := repStart_mem_of_exec hw hp h hr
  · exact heng.noRepStart hr
  · obtain ⟨ha, hstart⟩ := opensActiveBus_of_waitEvent_eq_repStart hi hwait he
    simp [heng.idle_of_startsOpenSeq hinv hstart] at ha

/-- A step of the SEQUENCER keeps the discipline. -/
theorem State.EngineInv.sequencerStep (h : sequencerStep s = .next t) : t.EngineInv := by
  obtain ⟨-, rfl⟩ | ⟨hb, i, hd, hi⟩ | ⟨hb, ⟨e, he⟩, rfl⟩ := sequencerStep_cases h
  · exact heng
  · have hw := wf_of_decodeWord hd
    have hp : posBelongs i s.pos = true := by simpa [State.latchFits, hd] using hinv.latch hb
    have heword : engineCommand i = true := by simpa [engineWord, hd] using heng.latch hb
    have hstep := execStep_of_exec hi
    obtain ⟨hparams, hlatch, -, hagenda, -⟩ := hstep.interface_unchanged
    exact {
      abortStop := hparams ▸ heng.abortStop
      turns := by rw [hparams, hagenda]; exact heng.turns
      latch := fun _ => hlatch ▸ heng.latch hb
      closed := heng.execStep_closed heword hstep
      noRepStart := heng.exec_noRepStart hinv hw hp heword hi }
  · have hfirst : s.pos = .first := by simpa [State.latchFits, he] using hinv.latch hb
    exact { heng with
      latch := nofun
      closed := fun ha => .inl (heng.txnOpen_of_busActive ha (by simp [hfirst])) }

end

/-! ### The turns -/

/-- The discipline with other turns to come (R88). -/
theorem State.EngineInv.withAgenda (heng : s.EngineInv) {ts : List Turn}
    (ht : ts.all (engineTurn s.params) = true) : State.EngineInv { s with agenda := ts } :=
  { heng with turns := ht }

/-- The invariant says nothing of the turns to come (R54). -/
theorem State.Inv.withAgenda (hinv : s.Inv) (ts : List Turn) : State.Inv { s with agenda := ts } :=
  { hinv with }

/-- A HOST read keeps the discipline (R43). -/
theorem State.EngineInv.hostRead (heng : s.EngineInv) (r : Reg) : (s.hostRead r).EngineInv := by
  obtain ⟨v, d, hread, -⟩ := State.hostRead_eq r s
  rw [hread]
  exact { heng with }

/-- A HOST write keeps the discipline, of a word of R88 where it is one to CMD (R44 to R47). -/
theorem State.EngineInv.hostWrite (hinv : s.Inv) (heng : s.EngineInv) (r : Reg) {v : Word}
    (hv : r = .cmd → engineWord v = true) : (s.hostWrite r v).EngineInv := by
  by_cases hro : ¬ (r = .cmd ∨ r = .buf0 ∨ r = .buf1)
  · rwa [State.hostWrite_of_readOnly v hro]
  cases hb : s.busy with
  | true =>
    rw [State.hostWrite_of_busy v (not_not.mp hro) hb]
    exact { heng with }
  | false =>
    obtain rfl | rfl | rfl := not_not.mp hro <;>
      simp only [State.hostWrite, hb, Bool.false_eq_true, if_false]
    · have hidle := hinv.idlePos hb
      exact { heng with
        latch := fun _ => hv rfl
        closed := fun ha => .inl (heng.txnOpen_of_busActive ha (by simp [hidle])) }
    · exact { heng with }
    · exact { heng with }

/-- A HOST access among the turns of R88 keeps the discipline. -/
theorem State.EngineInv.hostStep (hinv : s.Inv) (heng : s.EngineInv) {a : HostAccess}
    (ha : engineTurn s.params (.host a) = true) (h : hostStep a s = .next t) : t.EngineInv := by
  obtain ⟨addr, width, r, -, -, rfl⟩ | ⟨addr, width, v, r, rfl, hr, rfl⟩ := hostStep_cases h
  · exact heng.hostRead r
  · refine heng.hostWrite hinv r fun hcmd => ?_
    simpa [engineTurn, hr, hcmd] using ha

/-- Settles O58: each kind of turn keeps the discipline, a step of the SEQUENCER because the bus is idle where OpenSeq
starts. -/
theorem engineOnlyHostSeesNoRepeatedStart : Obligations.EngineOnlyHostSeesNoRepeatedStart := by
  intro s t hinv heng h
  have hturns := heng.turns
  obtain ⟨-, h⟩ | ⟨rest, ha, h⟩ | ⟨rest, ha, rfl⟩ | ⟨rest, ha, rfl⟩ | ⟨a, rest, ha, h⟩ := step_cases h
  · exact heng.sequencerStep hinv h
  all_goals
    rw [ha, List.all_cons, Bool.and_eq_true] at hturns
    obtain ⟨hturn, hrest⟩ := hturns
  · exact (heng.withAgenda hrest).sequencerStep (hinv.withAgenda rest) h
  · rw [State.waitPass_eq]
    refine { heng with turns := ?_ }
    cases s.busy
    · exact hrest
    · simpa [engineTurn] using hrest
  · exact { State.resetWith_engineInv (p := s.params) heng.abortStop hrest with }
  · exact (heng.withAgenda hrest).hostStep (hinv.withAgenda rest) hturn h

end Sys2Proof.Machine
end

section
/-! SUPPORT. The Transaction Engine (R78 to R87): the step of a command at an answered and at a timed-out wait, for
OPEN and for a byte of WRSEQ and RDSEQ. -/

namespace Sys2Proof.Machine

variable {s t : State} {i : Instr} {e : BusEvent}

/-- Settles O22: the two values of P_ABORT_STOP. -/
theorem failAbortsTheTransaction : Obligations.FailAbortsTheTransaction := by
  intro s
  unfold State.fail
  split
  · exact State.stop_eq s
  · rfl

/-! ### One step at a wait -/

section
variable {onDone : Byte → Byte → State → State} {onTimeout : State → State}
  (h : exec i s = s.stepOr (s.waited e onDone onTimeout))
include h

/-- The step of a command at an answered wait (R52). -/
theorem exec_of_waited_done {st x : Byte} (hn : s.nextAnswer = (.done st x, t)) :
    exec i s = .next (onDone st x { t.emit e with lastBusStatus := st }) := by
  rw [h, State.waited_done hn, State.stepOr_some]

/-- The step of a command at a wait that times out (R118). -/
theorem exec_of_waited_timeout (hn : s.nextAnswer = (.silent, t)) (hb : s.params.waitBound ≠ 0) :
    exec i s = .next (onTimeout (t.emit e)) := by
  rw [h, State.waited_timeout hn hb, State.stepOr_some]

end

/-! ### OPEN -/

theorem addrAckCode_eq (m : StatusMap) (d : Direction) :
    addrAckCode m d = if d = .write then m.slawAck else m.slarAck := by
  cases d <;> rfl

theorem addrNackCode_eq (m : StatusMap) (d : Direction) :
    addrNackCode m d = if d = .write then m.slawNack else m.slarNack := by
  cases d <;> rfl

/-- Settles O31: a false precondition, and each of the two waits answered or timed out. -/
theorem openJudgesEveryStatus : Obligations.OpenJudgesEveryStatus := by
  intro a7 d s
  refine ⟨fun hp hc => ?_, fun hp hc ho => ?_, fun hp => ?_⟩
  · exact exec_of_precondition_eq_false rfl hp (by obtain hc | ho := hc <;> simp [precondition, *])
  · have hexec := exec_openTxn_first (a7 := a7) (d := d) hp (by simp [precondition, hc, ho])
    refine ⟨fun st x t hn => ?_, fun hb t hn => ?_⟩
    · rw [exec_of_waited_done hexec hn, emit_startEvent, history_of_nextAnswer hn]
      rfl
    · rw [exec_of_waited_timeout hexec hn hb, emit_startEvent, history_of_nextAnswer hn]
      rfl
  · have hexec := exec_openTxn_address (a7 := a7) (d := d) hp
    refine ⟨fun st x t hn => ?_, fun hb t hn => ?_⟩
    · rw [exec_of_waited_done hexec hn, addrAckCode_eq, addrNackCode_eq, ← history_of_nextAnswer hn]
      rfl
    · rw [exec_of_waited_timeout hexec hn hb, ← history_of_nextAnswer hn]
      rfl

/-! ### One byte of WRSEQ and RDSEQ -/

theorem countOk_of_le {n : BitVec 4} (h1 : 1 ≤ n.toNat) (h8 : n.toNat ≤ 8) : countOk n = true :=
  decide_eq_true ⟨h1, h8⟩

theorem afterByte_eq (n : BitVec 4) (k : Fin 8) :
    afterByte n k = if k.val + 1 < n.toNat then .data (k + 1) else .ending .ok := by
  rw [afterByte, ← Bool.not_not (isLast _ _), not_isLast]
  by_cases h : k.val + 1 < n.toNat <;> simp [h]

/-- WRSEQ (`d` write) or RDSEQ (`d` read) stands at byte `k` of its loop, at byte 0 with its checks to pass (R83,
R84). -/
def State.AtByte (d : Direction) (k : Fin 8) (s : State) : Prop :=
  (s.pos = .first ∧ k = 0 ∧ s.configured = true ∧ s.txnOpen = true ∧ s.txnDir = d) ∨ s.pos = .data k

/-- WRSEQ at byte `k` of its loop (R80, R83). -/
theorem exec_wrseq_byte {n : BitVec 4} {k : Fin 8} (hc : countOk n = true) (hp : s.AtByte .write k) :
    exec (.wrseq n) s =
      s.stepOr (s.writeByte s.buf[k] (State.goto (afterByte n k)) State.raised) := by
  obtain ⟨hp, rfl, hconf, hopen, hdir⟩ | hp := hp
  · exact exec_wrseq_first hc hp (by simp [precondition, hconf, hopen, hdir])
  · exact exec_wrseq_data hc hp

/-- RDSEQ at byte `k` of its loop (R81, R84). -/
theorem exec_rdseq_byte {n : BitVec 4} {k : Fin 8} (hc : countOk n = true) (hp : s.AtByte .read k) :
    exec (.rdseq n) s = s.stepOr (s.readByte k (decide (k.val + 1 < n.toNat))
      (State.goto (afterByte n k)) State.raised) := by
  rw [← not_isLast]
  obtain ⟨hp, rfl, hconf, hopen, hdir⟩ | hp := hp
  · exact exec_rdseq_first hc hp (by simp [precondition, hconf, hopen, hdir])
  · exact exec_rdseq_data hc hp

/-- ReadSeq expects the code of the answer it gives (R81). -/
theorem State.rxExpected_decide (s : State) (p : Prop) [Decidable p] :
    s.rxExpected (decide p) = if p then s.params.st.rxdAck else s.params.st.rxdNack := by
  simp [State.rxExpected]

/-- Settles O33: the wait of byte `k`, answered or timed out. -/
theorem wrseqSendsOneByteAStep : Obligations.WrseqSendsOneByteAStep := by
  intro n s k h1 h8 hk hp
  have hexec := exec_wrseq_byte (countOk_of_le h1 h8) hp
  refine ⟨fun st x t hn => ?_, fun hb t hn => ?_⟩
  · rw [exec_of_waited_done hexec hn, afterByte_eq, ← history_of_nextAnswer hn]
    rfl
  · rw [exec_of_waited_timeout hexec hn hb, ← history_of_nextAnswer hn]
    rfl

/-- Settles O35: the wait of byte `k`, answered or timed out. -/
theorem rdseqReceivesOneByteAStep : Obligations.RdseqReceivesOneByteAStep := by
  intro n s k h1 h8 hk hp
  have hexec := exec_rdseq_byte (countOk_of_le h1 h8) hp
  refine ⟨fun st x t hn => ?_, fun hb t hn => ?_⟩
  · rw [exec_of_waited_done hexec hn, afterByte_eq, State.rxExpected_decide,
      ← history_of_nextAnswer hn, ← buf_of_nextAnswer hn]
    rfl
  · rw [exec_of_waited_timeout hexec hn hb, ← history_of_nextAnswer hn]
    rfl

end Sys2Proof.Machine
end

section
/-! SUPPORT. Runs of the Transaction Engine's commands (R82 to R87): OPEN whose address is acknowledged or not, and
WRSEQ and RDSEQ on a bus that answers their bytes as expected. -/

namespace Sys2Proof.Machine

variable {s t : State} {i : Instr}

/-! ### The steps of a run -/

/-- A run goes on from its first step's next state. -/
theorem execSteps_succ {k : Nat} (h : exec i s = .next t) :
    execSteps (k + 1) i s = execSteps k i t := by
  simp [execSteps, h]

/-- The last step of a run ends the command (R107). -/
theorem execSteps_ending {r : Result} (hw : i.wf = true) (hb : waitsOnBus i = true)
    (hp : s.pos = .ending r) : execSteps 1 i s = .next (s.finish r) :=
  execSteps_succ (exec_of_ending hw hb hp)

/-! ### Runs of OPEN -/

section
variable {a7 : DeviceAddr} {d : Direction} {x : Byte} {rest : List BusAnswer}

/-- OPEN's first step on the expected status (R79). -/
theorem exec_openTxn_started (hp : s.pos = .first) (hc : s.configured = true) (ho : s.txnOpen = false)
    (ha : s.answers =
      .done (if s.busActive then s.params.st.repStart else s.params.st.start) x :: rest) :
    exec (.openTxn a7 d) s = .next { s with
      answers := rest
      history := s.history ++ [if s.busActive then .repStart else .start]
      busActive := true
      lastBusStatus := if s.busActive then s.params.st.repStart else s.params.st.start
      pos := .address } := by
  obtain ⟨-, hfirst, -⟩ := openJudgesEveryStatus a7 d s
  obtain ⟨hdone, -⟩ := hfirst hp hc ho
  rw [hdone _ _ _ (State.nextAnswer_of_cons ha)]
  exact congrArg _ (if_pos rfl)

/-- OPEN's address phase, acknowledged (R79). -/
theorem exec_openTxn_acknowledged (hp : s.pos = .address)
    (ha : s.answers = .done (if d = .write then s.params.st.slawAck else s.params.st.slarAck) x :: rest) :
    exec (.openTxn a7 d) s = .next { s with
      answers := rest
      history := s.history ++ [.tx (a7 ++ d.bit)]
      lastBusStatus := if d = .write then s.params.st.slawAck else s.params.st.slarAck
      txnOpen := true, txnDir := d, pos := .ending .ok } := by
  obtain ⟨-, -, haddress⟩ := openJudgesEveryStatus a7 d s
  obtain ⟨hdone, -⟩ := haddress hp
  rw [hdone _ _ _ (State.nextAnswer_of_cons ha)]
  exact congrArg _ (if_pos rfl)

/-- In a well-formed map the two answers to an address differ (R9). -/
theorem StatusMap.ack_ne_nack_of_wf {m : StatusMap} (hm : m.wf = true) (d : Direction) :
    (if d = .write then m.slawNack else m.slarNack) ≠
      (if d = .write then m.slawAck else m.slarAck) := by
  simp only [StatusMap.wf, Bool.and_eq_true, bne_iff_ne] at hm
  obtain ⟨⟨⟨-, hw⟩, hr⟩, -⟩ := hm
  cases d
  · exact hw.symm
  · exact hr.symm

/-- OPEN's address phase, not acknowledged: the abort's P (R78, R79). -/
theorem exec_openTxn_nacked (hp : s.pos = .address) (hm : s.params.st.wf = true)
    (hstop : s.params.abortStop = true)
    (ha : s.answers =
      .done (if d = .write then s.params.st.slawNack else s.params.st.slarNack) x :: rest) :
    exec (.openTxn a7 d) s = .next { s with
      answers := rest
      history := s.history ++ [.tx (a7 ++ d.bit)] ++ [.stop]
      lastBusStatus := if d = .write then s.params.st.slawNack else s.params.st.slarNack
      busActive := false, txnOpen := false, pos := .ending .addrNack } := by
  rw [exec_of_waited_done (exec_openTxn_address hp) (State.nextAnswer_of_cons ha), addrAckCode_eq,
    addrNackCode_eq, if_neg (StatusMap.ack_ne_nack_of_wf hm d), if_pos rfl, State.fail_of_abortStop]
  · rfl
  · exact hstop

end

/-- Settles O32: OPEN's two waits, answered as expected, and its end. -/
theorem openCompletes : Obligations.OpenCompletes := by
  intro a7 d s x y rest hp hc ho ha
  have hstart := exec_openTxn_started (a7 := a7) (d := d) hp hc ho ha
  refine ⟨⟨_, hstart⟩, ?_⟩
  rw [execSteps_succ hstart, execSteps_succ (exec_openTxn_acknowledged rfl rfl),
    execSteps_ending rfl rfl rfl, finish_of_setsErr_eq_false rfl, ← hp]
  simp

/-- WRSEQ and RDSEQ need an open transaction (R83, R84). -/
theorem exec_loop_of_not_txnOpen {n : BitVec 4} (hi : i = .wrseq n ∨ i = .rdseq n)
    (hc : countOk n = true) (hp : s.pos = .first) (ho : s.txnOpen = false) :
    exec i s = .next s.usageEnd := by
  obtain rfl | rfl := hi
  · exact exec_of_precondition_eq_false hc hp (by simp [precondition, ho])
  · exact exec_of_precondition_eq_false hc hp (by simp [precondition, ho])

/-- Settles O37: the address NACK's P closes the transaction, which WRSEQ and RDSEQ need. -/
theorem nackedOpenIsFollowedByOneStop : Obligations.NackedOpenIsFollowedByOneStop := by
  intro a7 d s x y rest hp hc ho hstop hm ha
  have hrun := calc execSteps 3 (.openTxn a7 d) s
    _ = _ := execSteps_succ (exec_openTxn_started hp hc ho ha)
    _ = _ := execSteps_succ (exec_openTxn_nacked rfl hm hstop rfl)
    _ = _ := execSteps_ending rfl rfl rfl
  refine ⟨_, hrun, rfl, by simp, fun w n h1 h8 => ?_⟩
  have hcount : countOk n = true := countOk_of_le (by bv_omega) (by bv_omega)
  exact ⟨exec_loop_of_not_txnOpen (.inl rfl) hcount rfl rfl,
    exec_loop_of_not_txnOpen (.inr rfl) hcount rfl rfl⟩

/-! ### Runs of WRSEQ and RDSEQ -/

/-- After a byte that is not the last, the loop stands at the next one (R80, R81). -/
theorem atByte_succ {n : BitVec 4} {k : Fin 8} {d : Direction} (hp : s.pos = afterByte n k)
    (hk : k.val + 1 < n.toNat) : s.AtByte d (k + 1) :=
  .inr (by rw [hp, afterByte_eq, if_pos hk])

/-- The loop's index does not wrap below the count (R63). -/
theorem val_add_one_of_lt_count {n : BitVec 4} {k : Fin 8} (hc : countOk n = true)
    (hk : k.val + 1 < n.toNat) : (k + 1).val = k.val + 1 :=
  Fin.val_add_one_of_lt' (by have h8 := (of_decide_eq_true hc).2; omega)

/-- WRSEQ's byte `k`, acknowledged (R80). -/
theorem exec_wrseq_acknowledged {n : BitVec 4} {k : Fin 8} {x : Byte} {rest : List BusAnswer}
    (hc : countOk n = true) (hp : s.AtByte .write k)
    (ha : s.answers = .done s.params.st.txdAck x :: rest) :
    exec (.wrseq n) s = .next { s with
      answers := rest, history := s.history ++ [.tx s.buf[k]]
      lastBusStatus := s.params.st.txdAck, pos := afterByte n k } := by
  rw [exec_of_waited_done (exec_wrseq_byte hc hp) (State.nextAnswer_of_cons ha), if_pos rfl]
  rfl

/-- The bytes of BUF from byte `k` on (R32). -/
theorem drop_toList (b : Vector Byte 8) (k : Fin 8) :
    b.toList.drop k.val = b[k] :: b.toList.drop (k.val + 1) := by
  rw [List.drop_eq_getElem_cons (by simp)]
  simp

/-- The rest of WRSEQ's loop from byte `k` on, its bytes acknowledged (R80). -/
theorem execSteps_wrseq {n : BitVec 4} {k : Fin 8} {x : Byte} {xs : List Byte} {rest : List BusAnswer}
    (hc : countOk n = true) (hk : k.val + (x :: xs).length = n.toNat) (hp : s.AtByte .write k)
    (ha : s.answers = (x :: xs).map (fun x => .done s.params.st.txdAck x) ++ rest) :
    execSteps ((x :: xs).length + 1) (.wrseq n) s = .next { s with
      answers := rest
      history := s.history ++ ((s.buf.toList.drop k.val).take (x :: xs).length).map .tx
      lastBusStatus := s.params.st.txdAck, result := .ok, busy := false, pos := .first } := by
  induction xs generalizing s k x with
  | nil =>
    have hend : afterByte n k = .ending .ok := by
      rw [afterByte_eq, if_neg (by simp at hk; omega)]
    rw [List.length_singleton, execSteps_succ (exec_wrseq_acknowledged hc hp ha),
      execSteps_ending (i := .wrseq n) hc rfl hend, finish_of_setsErr_eq_false rfl, drop_toList]
    rfl
  | cons y ys ih =>
    have hlt : k.val + 1 < n.toNat := by simp at hk; omega
    rw [List.length_cons, execSteps_succ (exec_wrseq_acknowledged hc hp ha),
      ih (k := k + 1) (by rw [val_add_one_of_lt_count hc hlt]; simp at hk ⊢; omega)
        (atByte_succ rfl hlt) rfl,
      val_add_one_of_lt_count hc hlt, drop_toList _ k]
    simp

/-- Settles O34: the loop from byte 0 on. -/
theorem wrseqCompletes : Obligations.WrseqCompletes := by
  intro n s ds rest h1 h8 hlen hp hc ho hd ha
  have hcount := countOk_of_le h1 h8
  have hat : s.AtByte .write 0 := .inl ⟨hp, rfl, hc, ho, hd⟩
  obtain ⟨x, xs, rfl⟩ := List.exists_cons_of_length_pos (h1.trans_eq hlen.symm)
  refine ⟨⟨_, exec_wrseq_acknowledged hcount hat ha⟩, ?_⟩
  rw [← hlen, execSteps_wrseq hcount ((Nat.zero_add _).trans hlen) hat ha, ← hp]
  rfl

/-- RDSEQ's byte `k`, received with the status it expects (R81). -/
theorem exec_rdseq_received {n : BitVec 4} {k : Fin 8} {ack : Bool} {x : Byte} {rest : List BusAnswer}
    (hc : countOk n = true) (hp : s.AtByte .read k) (hack : decide (k.val + 1 < n.toNat) = ack)
    (ha : s.answers = .done (s.rxExpected ack) x :: rest) :
    exec (.rdseq n) s = .next { s with
      answers := rest, history := s.history ++ [.rx ack], lastBusStatus := s.rxExpected ack
      buf := s.buf.set k x, pos := afterByte n k } := by
  rw [exec_of_waited_done (exec_rdseq_byte hc hp) (State.nextAnswer_of_cons ha), hack, if_pos rfl]
  rfl

theorem overwritten_nil (b : Vector Byte 8) : overwritten b [] = b :=
  Vector.ext fun j hj => by simp [overwritten]

/-- Storing the byte after those stored so far (R81). -/
theorem set_overwritten {pre : List Byte} {k : Fin 8} (b : Vector Byte 8) (x : Byte)
    (hk : pre.length = k.val) : (overwritten b pre).set k x = overwritten b (pre ++ [x]) := by
  refine Vector.ext fun j hj => ?_
  obtain hlt | rfl | hgt := lt_trichotomy j k.val
  · simp [overwritten, hlt.ne', List.getElem?_append_left (hk ▸ hlt)]
  · simp [overwritten, ← hk]
  · have hpre : pre[j]? = none := List.getElem?_eq_none (by omega)
    have hlen : (pre ++ [x])[j]? = none := List.getElem?_eq_none (by simp; omega)
    simp [overwritten, hgt.ne, hpre, hlen]

/-- The rest of RDSEQ's loop from byte `k` on, `pre` the bytes it has received and its other bytes answered as
expected (R81). -/
theorem execSteps_rdseq {n : BitVec 4} {k : Fin 8} {b : Vector Byte 8} {pre ds : List Byte} {last : Byte}
    {rest : List BusAnswer} (hc : countOk n = true) (hk : k.val + (ds.length + 1) = n.toNat)
    (hp : s.AtByte .read k) (hpre : pre.length = k.val) (hb : s.buf = overwritten b pre)
    (ha : s.answers = ds.map (fun x => .done s.params.st.rxdAck x) ++
      .done s.params.st.rxdNack last :: rest) :
    execSteps (ds.length + 2) (.rdseq n) s = .next { s with
      answers := rest
      history := s.history ++ List.replicate ds.length (.rx true) ++ [.rx false]
      buf := overwritten b (pre ++ (ds ++ [last]))
      lastBusStatus := s.params.st.rxdNack, result := .ok, busy := false, pos := .first } := by
  induction ds generalizing s k pre with
  | nil =>
    have hlast : ¬ k.val + 1 < n.toNat := by simp at hk; omega
    have hend : afterByte n k = .ending .ok := by rw [afterByte_eq, if_neg hlast]
    rw [List.length_nil, execSteps_succ (exec_rdseq_received hc hp (decide_eq_false hlast) ha),
      execSteps_ending (i := .rdseq n) hc rfl hend, finish_of_setsErr_eq_false rfl, hb,
      set_overwritten b last hpre]
    simp [State.rxExpected]
  | cons y ys ih =>
    have hlt : k.val + 1 < n.toNat := by simp at hk; omega
    rw [List.length_cons, execSteps_succ (exec_rdseq_received hc hp (decide_eq_true hlt) ha),
      ih (k := k + 1) (pre := pre ++ [y]) (by rw [val_add_one_of_lt_count hc hlt]; simp at hk ⊢; omega)
        (atByte_succ rfl hlt) (by rw [val_add_one_of_lt_count hc hlt]; simp [hpre])
        (by rw [hb, set_overwritten b y hpre]) rfl]
    simp [List.replicate_succ]

/-- Settles O36: the loop from byte 0 on. -/
theorem rdseqCompletes : Obligations.RdseqCompletes := by
  intro n s ds last rest h8 hlen hp hc ho hd ha
  have hcount := countOk_of_le (by omega) h8
  have hat : s.AtByte .read 0 := .inl ⟨hp, rfl, hc, ho, hd⟩
  have hpre : precondition (.rdseq n) s = true := by simp [precondition, hc, ho, hd]
  refine ⟨exec_rdseq_first hcount hp hpre ▸ State.stepOr_next s _, ?_⟩
  rw [← hlen, execSteps_rdseq hcount ((Nat.zero_add _).trans hlen) hat rfl (overwritten_nil _).symm ha,
    ← hp]
  rfl

end Sys2Proof.Machine
end

section
/-! SUPPORT. An idle block (R97, R124): what the turns can do while BUSY = 0. -/

namespace Sys2Proof.Machine

variable {s t : State}

/-- With BUSY = 0 the SEQUENCER does nothing (R124). -/
theorem sequencerStep_of_idle (hb : s.busy = false) : sequencerStep s = .next s := by
  simp [sequencerStep, hb]

/-- The offset of CMD (R17). -/
theorem regAt_eq_cmd {off : Nat} (h : regAt off = .cmd) : off = 0x00 := by
  unfold regAt at h
  split at h
  · rfl
  all_goals cases h

/-- Of the writes to an idle block only one to CMD makes BUSY 1 (R44 to R47). -/
theorem State.eq_cmd_of_hostWrite_busy {r : Reg} {v : Word} (hb : s.busy = false)
    (ht : (s.hostWrite r v).busy = true) : r = .cmd := by
  cases r with
  | cmd => rfl
  | buf0 | buf1 => simp [State.hostWrite, hb, State.writeBuf0, State.writeBuf1] at ht
  | _ => simp [State.hostWrite, hb] at ht

/-- A HOST access that makes BUSY 1 is a write to CMD (R44). -/
theorem hostStep_makes_busy {a : HostAccess} (hb : s.busy = false) (h : hostStep a s = .next t)
    (ht : t.busy = true) : ∃ v, a = .write s.params.pBase 4 v := by
  obtain ⟨addr, width, r, -, -, rfl⟩ | ⟨addr, width, v, r, rfl, hacc, rfl⟩ := hostStep_cases h
  · obtain ⟨w, d, hread, -⟩ := State.hostRead_eq r s
    simp [hread, hb] at ht
  · obtain ⟨rfl, hlo, -, -, rfl⟩ := accessReg_ok hacc
    have hoff := regAt_eq_cmd (State.eq_cmd_of_hostWrite_busy hb ht)
    obtain rfl : addr = s.params.pBase := by omega
    exact ⟨v, rfl⟩

/-- Settles O17: of the turns only a HOST access can make BUSY 1, and that access is a write to CMD. -/
theorem blockStartsNothingByItself : Obligations.BlockStartsNothingByItself := by
  intro s hb
  refine ⟨fun u hu => ?_, fun t h ht => ?_⟩
  · have hidle : u.busy = false := by rw [State.sequencerTurn_eq hu]; exact hb
    rw [step_of_sequencerTurn hu, sequencerStep_of_idle hidle]
  · obtain ⟨-, hq⟩ | ⟨rest, -, hq⟩ | ⟨rest, -, rfl⟩ | ⟨rest, -, rfl⟩ | ⟨a, rest, ha, hh⟩ := step_cases h
    · cases (sequencerStep_of_idle hb).symm.trans hq
      simp [hb] at ht
    · cases (sequencerStep_of_idle (s := { s with agenda := rest }) hb).symm.trans hq
      simp [hb] at ht
    · simp [State.waitPass_eq, hb] at ht
    · cases ht
    · obtain ⟨v, rfl⟩ := hostStep_makes_busy (s := { s with agenda := rest }) hb hh ht
      exact ⟨v, rest, ha⟩

end Sys2Proof.Machine
end

section
/-! SUPPORT. The frame and the physical values (R90 to R99): DECODE, the fields of a frame as numbers, and packing. -/

namespace Sys2Proof.Machine

variable {s t : State}

/-- Settles O38: DECODE's two outcomes, neither of which sets ERR. -/
theorem decodeSplitsTheFrame : Obligations.DecodeSplitsTheFrame := by
  intro s hp
  refine ⟨fun hf => ?_, fun hf => ?_⟩
  · rw [exec_decode_first_of_not_frameBusy hp hf, finish_of_setsErr_eq_false rfl, ← hp]
    rfl
  · rw [exec_decode_first_of_frameBusy hp hf, finish_of_setsErr_eq_false rfl, ← hp]

/-! ### The fields of a frame -/

/-- A concatenation as a number: its high part times the weight of the low one, plus the low one. -/
theorem toNat_append_eq {m n : Nat} (x : BitVec m) (y : BitVec n) :
    (x ++ y).toNat = x.toNat * 2 ^ n + y.toNat := by
  rw [BitVec.toNat_append, ← Nat.shiftLeft_add_eq_or_of_lt y.isLt, Nat.shiftLeft_eq]

/-- raw_h as a number (R90). -/
theorem toNat_rawHumidity (f1 f2 f3 : Byte) :
    (rawHumidity f1 f2 f3).toNat = f1.toNat * 4096 + f2.toNat * 16 + f3.toNat / 16 := by
  have h3 := f3.isLt
  rw [rawHumidity, toNat_append_eq, toNat_append_eq, BitVec.extractLsb'_toNat, Nat.shiftRight_eq_div_pow]
  omega

/-- raw_t as a number (R90). -/
theorem toNat_rawTemperature (f3 f4 f5 : Byte) :
    (rawTemperature f3 f4 f5).toNat = f3.toNat % 16 * 65536 + f4.toNat * 256 + f5.toNat := by
  rw [rawTemperature, toNat_append_eq, toNat_append_eq, BitVec.extractLsb'_toNat, Nat.shiftRight_zero]
  omega

theorem toNat_le_fieldMax (x : Field) : x.toNat ≤ 1048575 := Nat.le_of_lt_succ x.isLt

/-! ### The physical values -/

/-- A field as a rational in its range (R90). -/
theorem cast_toNat_bounds (x : Field) : (0 : Rat) ≤ x.toNat ∧ (x.toNat : Rat) ≤ 1048575 :=
  ⟨Nat.cast_nonneg _, by exact_mod_cast toNat_le_fieldMax x⟩

/-- Settles O39: both values are linear in the raw field, whose range is that of 20 bits. -/
theorem rawFieldsAndPhysicalValues : Obligations.RawFieldsAndPhysicalValues := by
  refine ⟨fun f1 f2 f3 f4 f5 => ⟨toNat_rawHumidity f1 f2 f3, toNat_rawTemperature f3 f4 f5,
    toNat_le_fieldMax _, toNat_le_fieldMax _⟩, fun x => ?_⟩
  obtain ⟨hlo, hhi⟩ := cast_toNat_bounds x
  unfold humidity temperature
  refine ⟨by linarith, by linarith, by linarith, by linarith, fun y hy => ?_⟩
  rw [hy, Nat.cast_succ]
  exact ⟨by ring, by ring⟩

/-! ### Packing -/

/-- The frame of R99 for two raw fields, not busy; byte 6 is not read. -/
def packFrame (rh rt : Field) : Vector Byte 7 :=
  #v[0, .ofNat 8 (rh.toNat / 4096), .ofNat 8 (rh.toNat / 16),
    .ofNat 8 (rh.toNat % 16 * 16 + rt.toNat / 65536),
    .ofNat 8 (rt.toNat / 256), .ofNat 8 rt.toNat, 0]

/-- The bytes of the packed frame as numbers (R99). -/
theorem toNat_packFrame (rh rt : Field) :
    (packFrame rh rt)[1].toNat = rh.toNat / 4096 ∧ (packFrame rh rt)[2].toNat = rh.toNat / 16 % 256 ∧
    (packFrame rh rt)[3].toNat = rh.toNat % 16 * 16 + rt.toNat / 65536 ∧
    (packFrame rh rt)[4].toNat = rt.toNat / 256 % 256 ∧
    (packFrame rh rt)[5].toNat = rt.toNat % 256 := by
  have hh := toNat_le_fieldMax rh
  have ht := toNat_le_fieldMax rt
  exact ⟨Nat.mod_eq_of_lt (by omega), rfl, Nat.mod_eq_of_lt (by omega), rfl, rfl⟩

/-- The packed frame decodes to its fields (R90, R99). -/
theorem rawFields_packFrame (rh rt : Field) :
    rawHumidity (packFrame rh rt)[1] (packFrame rh rt)[2] (packFrame rh rt)[3] = rh ∧
    rawTemperature (packFrame rh rt)[3] (packFrame rh rt)[4] (packFrame rh rt)[5] = rt := by
  obtain ⟨h1, h2, h3, h4, h5⟩ := toNat_packFrame rh rt
  have hh := toNat_le_fieldMax rh
  have ht := toNat_le_fieldMax rt
  constructor
  · apply BitVec.eq_of_toNat_eq
    rw [toNat_rawHumidity, h1, h2, h3]
    omega
  · apply BitVec.eq_of_toNat_eq
    rw [toNat_rawTemperature, h3, h4, h5]
    omega

/-- The floor rule of R99 loses less than one raw step of a value in the range of a field. -/
theorem floorField_bounds {z : Rat} (h0 : 0 ≤ z) (h1 : z < 2 ^ 20) :
    ((BitVec.ofNat 20 z.floor.toNat).toNat : Rat) ≤ z ∧
    z < (BitVec.ofNat 20 z.floor.toNat).toNat + 1 := by
  have hlt : ⌊z⌋₊ < 2 ^ 20 := (Nat.floor_lt h0).mpr (by exact_mod_cast h1)
  have hfield : (BitVec.ofNat 20 z.floor.toNat).toNat = ⌊z⌋₊ := Nat.mod_eq_of_lt hlt
  rw [hfield]
  exact ⟨Nat.floor_le h0, Nat.lt_floor_add_one z⟩

/-- Settles O40: the frame of R99, and the bounds of the floor rule scaled to each quantity. -/
theorem packedFrameDecodesWithinOneStep : Obligations.PackedFrameDecodesWithinOneStep := by
  refine ⟨fun rh rt => ⟨packFrame rh rt, by simp [packFrame], ?_⟩, fun h h0 h1 => ?_, fun t h0 h1 => ?_⟩
  · obtain ⟨b1, b2, b3, b4, b5⟩ := toNat_packFrame rh rt
    exact ⟨b1, b2, b3, b4, b5, rawFields_packFrame rh rt⟩
  · obtain ⟨hlo, hhi⟩ := floorField_bounds (z := h * 2 ^ 20 / 100) (by linarith) (by linarith)
    unfold humidity packHumidity
    exact ⟨by linarith, by linarith⟩
  · obtain ⟨hlo, hhi⟩ := floorField_bounds (z := (t + 50) * 2 ^ 20 / 200) (by linarith) (by linarith)
    unfold temperature packTemperature
    exact ⟨by linarith, by linarith⟩

end Sys2Proof.Machine
end

section
/-! SUPPORT. The steps of MEASURE (R95, R96): each of its bus waits answered as expected, the Decoding state, and its
communication failures. -/

namespace Sys2Proof.Machine

variable {s t : State}

/-! ### The top of the loop -/

/-- MEASURE stands at the top of its loop, on entry with its checks passed (R95). -/
def State.AtCycleTop (s : State) : Prop :=
  (s.pos = .first ∧ s.configured = true ∧ s.txnOpen = false) ∨ s.pos = .trigStart

/-- RETRIES at the top of the loop: 0 on entry, kept by a restart (R30, R95). -/
def State.topRetries (s : State) : BitVec 4 := if s.pos = .first then 0 else s.retries

theorem exec_measure_top (h : s.AtCycleTop) :
    exec .measure s = s.stepOr (State.measureTrigger { s with retries := s.topRetries }) := by
  obtain ⟨hp, hc, ho⟩ | hp := h
  · rw [exec_measure_first hp (by simp [precondition, hc, ho]), State.topRetries, if_pos hp]
  · rw [exec_measure_trigStart hp, State.topRetries, if_neg (by simp [hp])]

/-- The answer of the bus does not depend on what MEASURE assigns before its first wait (R52, R95). -/
theorem State.nextAnswer_withCycle {a : BusAnswer} (rt : BitVec 4) (x : SeqState)
    (hn : s.nextAnswer = (a, t)) :
    State.nextAnswer { s with retries := rt, seqState := x } =
      (a, { t with retries := rt, seqState := x }) := by
  unfold State.nextAnswer at hn ⊢
  split at hn <;> cases hn
  next ha => simp [ha]
  next ha => simp [ha]

/-- The wait at the top of the loop, answered (R79, R95). -/
theorem exec_measure_top_done {st x : Byte} (h : s.AtCycleTop) (hn : s.nextAnswer = (.done st x, t)) :
    exec .measure s = .next (
      let u : State := { t with
        retries := s.topRetries, seqState := .triggering
        history := s.history ++ [if s.busActive then .repStart else .start]
        busActive := true, lastBusStatus := st }
      if st = s.startExpected then { u with pos := .trigAddress }
      else { u.fail with seqState := .invalid, pos := .ending .protocolFault }) := by
  rw [exec_measure_top h, State.measureTrigger, State.openStart,
    State.waited_done (State.nextAnswer_withCycle s.topRetries .triggering hn), State.stepOr_some,
    emit_startEvent, ← history_of_nextAnswer hn]
  rfl

/-! ### The waits after it, answered as expected -/

theorem State.measureTrigByte_of_ne {k : Fin 3} (hk : k ≠ 2) : s.measureTrigByte k =
    s.writeByte Config.trigger[k] (State.goto (.trigData (k + 1))) State.measureErr := by
  have hl : isLast 3 k.val = false := decide_eq_false (by omega)
  simp only [State.measureTrigByte, hl]
  rfl

theorem State.measureTrigByte_last : s.measureTrigByte 2 =
    s.writeByte 0x00 State.measureTriggered State.measureErr := rfl

theorem State.measureReadByte_last : s.measureReadByte 6 =
    s.readByte 6 false State.measureRead State.measureErr := rfl

section
variable {ok : State → State} {err : Result → State → State} {st x : Byte}
  (hn : s.nextAnswer = (.done st x, t))
include hn

/-- A sent byte with the status it expects (R80). -/
theorem exec_of_writeByte_ok {b : Byte} (hexec : exec .measure s = s.stepOr (s.writeByte b ok err))
    (hst : st = s.params.st.txdAck) : exec .measure s = .next (ok { t with
      history := s.history ++ [.tx b], lastBusStatus := st }) := by
  rw [exec_of_waited_done hexec hn, if_pos hst, ← history_of_nextAnswer hn]
  rfl

/-- A received byte with the status it expects (R81). -/
theorem exec_of_readByte_ok {k : Fin 8} {ack : Bool}
    (hexec : exec .measure s = s.stepOr (s.readByte k ack ok err)) (hst : st = s.rxExpected ack) :
    exec .measure s = .next (ok { t with
      history := s.history ++ [.rx ack], lastBusStatus := st, buf := s.buf.set k x }) := by
  rw [exec_of_waited_done hexec hn, if_pos hst, ← history_of_nextAnswer hn, ← buf_of_nextAnswer hn]
  rfl

/-- An address phase, acknowledged; `p` is the position after it (R79). -/
theorem exec_of_openAddress_ok {a7 : DeviceAddr} {d : Direction} {p : SeqPos}
    (hexec : exec .measure s = s.stepOr (s.openAddress a7 d (State.goto p) err))
    (hst : st = addrAckCode s.params.st d) : exec .measure s = .next { t with
      history := s.history ++ [.tx (addressByte a7 d)], lastBusStatus := st
      txnOpen := true, txnDir := d, pos := p } := by
  rw [exec_of_waited_done hexec hn, if_pos hst, ← history_of_nextAnswer hn]
  rfl

/-- A trigger byte but the last, acknowledged (R95). -/
theorem exec_measure_trigData_ok {k : Fin 3} (hp : s.pos = .trigData k) (hk : k ≠ 2)
    (hst : st = s.params.st.txdAck) : exec .measure s = .next { t with
      history := s.history ++ [.tx Config.trigger[k]], lastBusStatus := st
      pos := .trigData (k + 1) } := by
  rw [exec_of_writeByte_ok hn (State.measureTrigByte_of_ne hk ▸ exec_measure_trigData hp) hst]
  rfl

/-- The last trigger byte, acknowledged: P and SETTLING (R95). -/
theorem exec_measure_trigData_last_ok (hp : s.pos = .trigData 2) (hst : st = s.params.st.txdAck) :
    exec .measure s = .next { t with
      history := s.history ++ [.tx 0x00, .stop], lastBusStatus := st
      busActive := false, txnOpen := false, seqState := .settling, pos := .settling } := by
  rw [exec_of_writeByte_ok hn (State.measureTrigByte_last ▸ exec_measure_trigData hp) hst,
    List.append_cons s.history _ [.stop]]
  rfl

/-- The START of the frame read, with the status it expects (R79). -/
theorem exec_measure_readStart_ok (hp : s.pos = .readStart) (hst : st = s.startExpected) :
    exec .measure s = .next { t with
      history := s.history ++ [if s.busActive then .repStart else .start]
      busActive := true, lastBusStatus := st, pos := .readAddress } := by
  rw [exec_of_waited_done (exec_measure_readStart hp) hn, if_pos hst, emit_startEvent,
    history_of_nextAnswer hn]
  rfl

/-- A frame byte but the last, received (R95). -/
theorem exec_measure_readData_ok {k : Fin 7} (hk : k.val < 6) (hp : s.pos = .readData k)
    (hst : st = s.params.st.rxdAck) : exec .measure s = .next { t with
      history := s.history ++ [.rx true], lastBusStatus := st
      buf := s.buf.set k.val x, pos := .readData (k + 1) } := by
  rw [exec_of_readByte_ok (ack := true) hn (State.measureReadByte_of_lt hk ▸ exec_measure_readData hp) hst]
  rfl

/-- The last frame byte, received: the Decoding state follows in its step (R54, R95). -/
theorem exec_measure_readData_last_ok (hp : s.pos = .readData 6) (hst : st = s.params.st.rxdNack) :
    exec .measure s = .next (State.measureRead { t with
      history := s.history ++ [.rx false], lastBusStatus := st, buf := s.buf.set 6 x }) :=
  exec_of_readByte_ok (ack := false) hn (State.measureReadByte_last ▸ exec_measure_readData hp) hst

end

/-- Settles O41: the top of the loop, then each wait up to the last trigger byte, answered as expected. -/
theorem measureTriggersTheSensor : Obligations.MeasureTriggersTheSensor := by
  intro s t st x hn
  refine ⟨fun h => exec_measure_top_done h hn, fun hp hst => ?_, fun hp hst => ?_, fun hp hst => ?_,
    fun hp hst => exec_measure_trigData_last_ok hn hp hst⟩
  · exact exec_of_openAddress_ok hn (exec_measure_trigAddress hp) hst
  · exact exec_measure_trigData_ok hn hp (by decide) hst
  · exact exec_measure_trigData_ok hn hp (by decide) hst

/-- Settles O42: the Settle step, then each wait up to the last frame byte but one, answered as expected. -/
theorem measureSettlesAndReadsTheFrame : Obligations.MeasureSettlesAndReadsTheFrame := by
  refine ⟨fun s hp => exec_measure_settling hp, fun s t st x hn => ⟨fun hp hst => ?_, fun hp hst => ?_,
    fun k hk hp hst => exec_measure_readData_ok hn hk hp hst⟩⟩
  · exact exec_measure_readStart_ok hn hp hst
  · exact exec_of_openAddress_ok hn (exec_measure_readAddress hp) hst

/-! ### The Decoding state -/

/-- COUNT after a push: one more, and 3 stays 3 (R36, R100). -/
theorem count_succ_eq (c : BitVec 2) :
    BitVec.ofNat 2 (min (c.toNat + 1) 3) = if c = 3 then 3 else c + 1 := by
  revert c; decide

/-- After the last frame byte: one P, and the three outcomes of the Decoding state (R95, R96). -/
theorem State.measureRead_eq (s : State) : s.measureRead = (
    let u : State := { s with
      history := s.history ++ [.stop], busActive := false, txnOpen := false }
    if s.frameBusy then
      if s.retries < s.params.busyRetries then
        { u with decValid := false, retries := s.retries + 1, seqState := .triggering
                 pos := .trigStart }
      else { u with decValid := false, seqState := .invalid, pos := .ending .sensorBusy }
    else { u with
      rawH := s.frameH, rawT := s.frameT, decValid := true
      winH := s.winH.set s.wrIdx s.frameH, winT := s.winT.set s.wrIdx s.frameT
      wrIdx := s.wrIdx + 1, count := if s.count = 3 then 3 else s.count + 1
      seqState := .ready, pos := .ending .ok }) := by
  rw [← count_succ_eq]
  rfl

/-- Byte 6 of a frame is not decoded (R89). -/
theorem frame_of_buf_set_six {u : State} {x : Byte} (h : u.buf = s.buf.set 6 x) :
    u.frameBusy = s.frameBusy ∧ u.frameH = s.frameH ∧ u.frameT = s.frameT := by
  simp [State.frameBusy, State.frameH, State.frameT, h]

/-- Taking an answer changes only the environment (R52). -/
theorem eq_of_nextAnswer {a : BusAnswer} (hn : s.nextAnswer = (a, t)) :
    ∃ as n, t = { s with answers := as, draws := n } := by
  have ht := State.nextAnswer_snd s
  rw [hn] at ht
  exact ⟨_, _, ht⟩

/-- Settles O43: the last frame byte with its expected status, and the Decoding state it ends in. -/
theorem measureDecodesTheFrame : Obligations.MeasureDecodesTheFrame := by
  intro s hp st x t hn hst
  rw [exec_measure_readData_last_ok hn hp hst, State.measureRead_eq]
  obtain ⟨as, n, rfl⟩ := eq_of_nextAnswer hn
  have hframe (h : List BusEvent) := frame_of_buf_set_six (s := s) (u := { s with
    answers := as, draws := n, history := h, lastBusStatus := st, buf := s.buf.set 6 x }) rfl
  obtain ⟨hbusy, hh, ht⟩ := hframe (s.history ++ [.rx false])
  rw [hbusy, hh, ht, List.append_assoc]
  rfl

/-! ### Communication failures -/

/-- What MEASURE leaves of a failed bus step that left LAST_BUS_STATUS `st`: the wait's event, the abort's P, SEQ_STATE
INVALID and the end with `r`, with BUF, the decoded sample and the window as they were (R78, R95). -/
def State.MeasureFails (s : State) (r : Result) (st : Byte) : Prop :=
  ∃ u : State, exec .measure s = .next { u with seqState := .invalid, pos := .ending r } ∧
    u.history = s.history ++ measureEvent s :: (if s.params.abortStop then [.stop] else []) ∧
    u.lastBusStatus = st ∧ u.txnOpen = false ∧ u.buf = s.buf ∧
    u.winH = s.winH ∧ u.winT = s.winT ∧ u.wrIdx = s.wrIdx ∧ u.count = s.count ∧
    u.rawH = s.rawH ∧ u.rawT = s.rawT ∧ u.decValid = s.decValid

/-- A step that ends in `Err(r)` after `Fail` is such a failure; `rt` and `x` are what MEASURE assigned before its
wait. -/
theorem measureFails_of_measureErr {r : Result} {st : Byte} {as : List BusAnswer} {n : Nat}
    {rt : BitVec 4} {x : SeqState}
    (h : exec .measure s = .next (State.measureErr r (State.fail
      { s.afterEvent (measureEvent s) as n with lastBusStatus := st, retries := rt, seqState := x }))) :
    s.MeasureFails r st :=
  ⟨_, h, by simp [State.fail_history, State.afterEvent], by simp [State.afterEvent]⟩

/-- MEASURE's step at `s` is a wait that expects the status `expected` and reports another one by `err` (R79 to R81);
`rt` and `y` are what MEASURE assigned before it. -/
def State.MeasureJudges (s : State) (expected : Byte) (err : Byte → Result) : Prop :=
  ∃ (e : BusEvent) (rt : BitVec 4) (y : SeqState) (onDone : Byte → Byte → State → State),
    measureEvent s = e ∧ exec .measure s = s.stepOr (State.waited e onDone
      (fun t => t.fail.measureErr .busTimeout) { s with retries := rt, seqState := y }) ∧
    ∀ st x t, st ≠ expected → onDone st x t = t.fail.measureErr (err st)

section
variable {expected : Byte} {err : Byte → Result} (h : s.MeasureJudges expected err)
include h

/-- A timeout of such a wait (R118). -/
theorem State.MeasureJudges.timeout (hb : s.params.waitBound ≠ 0) (hn : s.nextAnswer = (.silent, t)) :
    s.MeasureFails .busTimeout s.lastBusStatus := by
  obtain ⟨e, rt, y, onDone, rfl, hexec, -⟩ := h
  rw [State.waited_timeout (State.nextAnswer_withCycle rt y hn) hb, State.stepOr_some] at hexec
  obtain ⟨as, n, rfl⟩ := eq_of_nextAnswer hn
  exact measureFails_of_measureErr (as := as) (n := n) (rt := rt) (x := y) hexec

/-- An unexpected status at such a wait (R79 to R81). -/
theorem State.MeasureJudges.unexpected {st x : Byte} (hst : st ≠ expected)
    (hn : s.nextAnswer = (.done st x, t)) : s.MeasureFails (err st) st := by
  obtain ⟨e, rt, y, onDone, rfl, hexec, herr⟩ := h
  rw [State.waited_done (State.nextAnswer_withCycle rt y hn), State.stepOr_some, herr _ _ _ hst] at hexec
  obtain ⟨as, n, rfl⟩ := eq_of_nextAnswer hn
  exact measureFails_of_measureErr (as := as) (n := n) (rt := rt) (x := y) hexec

end

/-! ### The status MEASURE expects at each of its waits -/

section
variable {rt : BitVec 4} {y : SeqState} {ok : State → State}

theorem judges_of_openStart (he : measureEvent s = s.startEvent)
    (hexec : exec .measure s = s.stepOr
      (State.openStart ok State.measureErr { s with retries := rt, seqState := y })) :
    s.MeasureJudges s.startExpected (fun _ => .protocolFault) :=
  ⟨_, rt, y, _, he, hexec, fun _ _ _ hst => if_neg hst⟩

theorem judges_of_openAddress {a7 : DeviceAddr} {d : Direction}
    (he : measureEvent s = .tx (addressByte a7 d))
    (hexec : exec .measure s = s.stepOr (s.openAddress a7 d ok State.measureErr)) :
    s.MeasureJudges (addrAckCode s.params.st d)
      (fun st => if st = addrNackCode s.params.st d then .addrNack else .protocolFault) := by
  refine ⟨_, s.retries, s.seqState, _, he, hexec, fun st x t hst => ?_⟩
  rw [if_neg hst]
  exact (apply_ite (State.measureErr · t.fail) _ _ _).symm

theorem judges_of_writeByte {b : Byte} (he : measureEvent s = .tx b)
    (hexec : exec .measure s = s.stepOr (s.writeByte b ok State.measureErr)) :
    s.MeasureJudges s.params.st.txdAck (fun _ => .protocolFault) :=
  ⟨_, s.retries, s.seqState, _, he, hexec, fun _ _ _ hst => if_neg hst⟩

theorem judges_of_readByte {k : Fin 8} {ack : Bool} (he : measureEvent s = .rx ack)
    (hexec : exec .measure s = s.stepOr (s.readByte k ack ok State.measureErr)) :
    s.MeasureJudges (s.rxExpected ack) (fun _ => .protocolFault) :=
  ⟨_, s.retries, s.seqState, _, he, hexec, fun _ _ _ hst => if_neg hst⟩

end

/-- The status MEASURE expects at a wait (R79 to R81). -/
def State.measureExpected (s : State) : Byte :=
  match s.pos with
  | .trigAddress => s.params.st.slawAck
  | .trigData _ => s.params.st.txdAck
  | .readAddress => s.params.st.slarAck
  | .readData k => if k.val < 6 then s.params.st.rxdAck else s.params.st.rxdNack
  | _ => s.startExpected

/-- How MEASURE reports the unexpected status `st` (R79 to R81). -/
def State.measureError (s : State) (st : Byte) : Result :=
  match s.pos with
  | .trigAddress => if st = s.params.st.slawNack then .addrNack else .protocolFault
  | .readAddress => if st = s.params.st.slarNack then .addrNack else .protocolFault
  | _ => .protocolFault

/-- Only the NACK code of an address phase is ADDR_NACK (R79). -/
theorem State.measureError_eq (s : State) (st : Byte) : s.measureError st =
    if (s.pos = .trigAddress ∧ st = s.params.st.slawNack) ∨
      (s.pos = .readAddress ∧ st = s.params.st.slarNack) then .addrNack else .protocolFault := by
  unfold State.measureError
  split
  next hp => simp [hp]
  next hp => simp [hp]
  next hw hr =>
    refine (if_neg ?_).symm
    rintro (⟨hp, -⟩ | ⟨hp, -⟩)
    · exact hw hp
    · exact hr hp

/-- MEASURE's positions of a START (R79, R95). -/
theorem measure_judges_start (h : s.AtCycleTop ∨ s.pos = .readStart) :
    s.MeasureJudges s.startExpected (fun _ => .protocolFault) := by
  obtain h | hp := h
  · refine judges_of_openStart ?_ (exec_measure_top h)
    obtain ⟨hp, -⟩ | hp := h <;> rw [measureEvent, hp] <;> rfl
  · exact judges_of_openStart (by rw [measureEvent, hp]; rfl) (exec_measure_readStart hp)

theorem measure_judges_trigData {k : Fin 3} (hp : s.pos = .trigData k) :
    s.MeasureJudges s.params.st.txdAck (fun _ => .protocolFault) := by
  have he : measureEvent s = .tx Config.trigger[k] := by
    rw [measureEvent, hp]
    match k with
    | 0 | 1 | 2 => rfl
  exact judges_of_writeByte he (exec_measure_trigData hp)

theorem measure_judges_readData {k : Fin 7} (hp : s.pos = .readData k) :
    s.MeasureJudges (if k.val < 6 then s.params.st.rxdAck else s.params.st.rxdNack)
      (fun _ => .protocolFault) := by
  have hack : (!isLast Config.frameLen k.val) = decide (k.val < 6) := by
    rw [not_isLast, decide_eq_decide]
    exact Nat.succ_lt_succ_iff
  rw [← State.rxExpected_decide, ← hack]
  exact judges_of_readByte (by rw [hack, measureEvent, hp]) (exec_measure_readData hp)

/-- Every wait of MEASURE judges its status. -/
theorem measure_judges (h : waitsHere .measure s) : s.MeasureJudges s.measureExpected s.measureError := by
  obtain ⟨-, hpos, hset, hend, hpre⟩ := h
  unfold State.measureExpected State.measureError
  cases hp : s.pos with
  | first =>
    have htop : s.AtCycleTop := by simpa [State.AtCycleTop, hp, precondition] using hpre hp
    exact measure_judges_start (.inl htop)
  | trigStart => exact measure_judges_start (.inl (.inr hp))
  | trigAddress =>
    exact judges_of_openAddress (d := .write) (by rw [measureEvent, hp]; rfl)
      (exec_measure_trigAddress hp)
  | trigData k => exact measure_judges_trigData hp
  | settling => exact absurd hp hset
  | readStart => exact measure_judges_start (.inr hp)
  | readAddress =>
    exact judges_of_openAddress (d := .read) (by rw [measureEvent, hp]; rfl)
      (exec_measure_readAddress hp)
  | readData k => exact measure_judges_readData hp
  | ending r => exact absurd hp (hend r)
  | address | data => rw [hp] at hpos; cases hpos

/-- Settles O44: each wait of MEASURE judges its status, so a timeout or an unexpected status is a failure. -/
theorem measureReportsCommunicationFailures : Obligations.MeasureReportsCommunicationFailures := by
  intro s h
  have hjudges := measure_judges h
  exact ⟨fun hb ha => hjudges.timeout hb (Prod.ext ha rfl),
    fun st x ha hst => s.measureError_eq st ▸ hjudges.unexpected hst (Prod.ext ha rfl)⟩

end Sys2Proof.Machine
end

section
/-! SUPPORT. A run of MEASURE on a bus that goes along with it (R95, V-MEA-1): the trigger, the settling and the frame
read, each as a run of its own. -/

namespace Sys2Proof.Machine

variable {s t : State} {x : Byte} {rest : List BusAnswer}

/-- A run that goes on after its first `j` steps. -/
theorem execSteps_add {i : Instr} {j : Nat} (k : Nat) (h : execSteps j i s = .next t) :
    execSteps (j + k) i s = execSteps k i t := by
  induction j generalizing s with
  | zero => cases h; rw [Nat.zero_add]
  | succ j ih =>
    rw [Nat.succ_add, execSteps]
    rw [execSteps] at h
    cases hs : exec i s with
    | next u => rw [hs] at h; exact ih h
    | fault f => rw [hs] at h; cases h
    | refused r => rw [hs] at h; cases h

/-- MEASURE's first step on the expected status (R79, R95). -/
theorem exec_measure_first_ok (hp : s.pos = .first) (hc : s.configured = true) (ho : s.txnOpen = false)
    (ha : s.answers = .done s.startExpected x :: rest) : exec .measure s = .next { s with
      answers := rest, retries := 0, seqState := .triggering
      history := s.history ++ [if s.busActive then .repStart else .start]
      busActive := true, lastBusStatus := s.startExpected, pos := .trigAddress } := by
  rw [exec_measure_top_done (.inl ⟨hp, hc, ho⟩) (State.nextAnswer_of_cons ha), State.topRetries, if_pos hp]
  exact congrArg _ (if_pos rfl)

/-- TRIGGERING: five steps from MEASURE's entry to its P (R95). -/
theorem execSteps_measure_trigger (hp : s.pos = .first) (hc : s.configured = true)
    (ho : s.txnOpen = false)
    (ha : s.answers = .done s.startExpected x :: .done s.params.st.slawAck x ::
      .done s.params.st.txdAck x :: .done s.params.st.txdAck x :: .done s.params.st.txdAck x :: rest) :
    execSteps 5 .measure s = .next { s with
      answers := rest
      history := s.history ++
        [if s.busActive then .repStart else .start, .tx 0x70, .tx 0xAC, .tx 0x33, .tx 0x00, .stop]
      busActive := false, txnOpen := false, txnDir := .write, lastBusStatus := s.params.st.txdAck
      retries := 0, seqState := .settling, pos := .settling } := by
  rw [execSteps_succ (exec_measure_first_ok hp hc ho ha),
    execSteps_succ (exec_of_openAddress_ok (State.nextAnswer_of_cons rfl) (exec_measure_trigAddress rfl) rfl),
    execSteps_succ (exec_measure_trigData_ok (State.nextAnswer_of_cons rfl) rfl (by decide) rfl),
    execSteps_succ (exec_measure_trigData_ok (State.nextAnswer_of_cons rfl) rfl (by decide) rfl),
    execSteps_succ (exec_measure_trigData_last_ok (State.nextAnswer_of_cons rfl) rfl rfl), execSteps]
  simp only [List.append_assoc]
  rfl

/-- The START of the frame read on an idle bus, with the status it expects (R79). -/
theorem exec_measure_readStart_idle_ok {st : Byte} (hn : s.nextAnswer = (.done st x, t))
    (hp : s.pos = .readStart) (hb : s.busActive = false) (hst : st = s.params.st.start) :
    exec .measure s = .next { t with
      history := s.history ++ [.start], busActive := true, lastBusStatus := st
      pos := .readAddress } := by
  rw [exec_measure_readStart_ok hn hp (by simp [State.startExpected, hb, hst]), hb]
  rfl

/-- SETTLING and the opening of the frame read, on the idle bus the trigger left: three steps (R95, R117). -/
theorem execSteps_measure_settle (hp : s.pos = .settling) (hb : s.busActive = false)
    (ha : s.answers = .done s.params.st.start x :: .done s.params.st.slarAck x :: rest) :
    execSteps 3 .measure s = .next { s with
      answers := rest, history := s.history ++ [.settle, .start, .tx 0x71]
      busActive := true, txnOpen := true, txnDir := .read, lastBusStatus := s.params.st.slarAck
      seqState := .reading, pos := .readData 0 } := by
  have hsettle : exec .measure s = .next { s with
      history := s.history ++ [.settle], seqState := .reading, pos := .readStart } :=
    exec_measure_settling hp
  have hrun := calc execSteps 3 .measure s
    _ = _ := execSteps_succ hsettle
    _ = _ := execSteps_succ (exec_measure_readStart_idle_ok (State.nextAnswer_of_cons ha) rfl hb rfl)
    _ = _ := execSteps_succ
      (exec_of_openAddress_ok (State.nextAnswer_of_cons rfl) (exec_measure_readAddress rfl) rfl)
  rw [hrun, execSteps]
  simp only [List.append_assoc]
  rfl

/-- The frame read from byte `k` on, `pre` the bytes it has received and the frame's other bytes answered as expected
(R81, R95). -/
theorem execSteps_measure_frame {k : Fin 7} {b : Vector Byte 8} {pre ds : List Byte} {last : Byte}
    (hk : k.val + ds.length = 6) (hp : s.pos = .readData k) (hpre : pre.length = k.val)
    (hb : s.buf = overwritten b pre)
    (ha : s.answers = ds.map (fun d => .done s.params.st.rxdAck d) ++
      .done s.params.st.rxdNack last :: rest) :
    execSteps (ds.length + 1) .measure s = .next (State.measureRead { s with
      answers := rest
      history := s.history ++ List.replicate ds.length (.rx true) ++ [.rx false]
      buf := overwritten b (pre ++ (ds ++ [last])), lastBusStatus := s.params.st.rxdNack
      pos := .readData 6 }) := by
  induction ds generalizing s k pre with
  | nil =>
    obtain rfl : k = 6 := Fin.ext hk
    have hset : (overwritten b pre).set 6 last = overwritten b (pre ++ [last]) :=
      set_overwritten (k := 6) b last hpre
    rw [List.length_nil, execSteps_succ (exec_measure_readData_last_ok (State.nextAnswer_of_cons ha) hp rfl),
      execSteps, hb]
    simp [hset, hp]
  | cons d ds ih =>
    have hlt : k.val < 6 := by simp at hk; omega
    have hsucc : (k + 1).val = k.val + 1 := Fin.val_add_one_of_lt' (by omega)
    have hset := set_overwritten (k := k.castLE (by decide)) b d hpre
    rw [List.length_cons,
      execSteps_succ (exec_measure_readData_ok (State.nextAnswer_of_cons ha) hlt hp rfl),
      ih (k := k + 1) (pre := pre ++ [d]) (by rw [hsucc]; simp at hk; omega) rfl
        (by rw [hsucc]; simp [hpre]) (by rw [hb]; exact hset) rfl]
    simp [List.replicate_succ]

/-- The buffer after the seven bytes of a frame (R95). -/
theorem overwritten_frame (b : Vector Byte 8) (f : Vector Byte 7) :
    overwritten b [f[0], f[1], f[2], f[3], f[4], f[5], f[6]] =
      #v[f[0], f[1], f[2], f[3], f[4], f[5], f[6], b[7]] := by
  rw [vector_eq_literal (overwritten _ _)]
  simp [overwritten]

/-- The Decoding state for a frame that is not busy (R96, R100). -/
theorem State.measureRead_of_frame {f : Vector Byte 7} {b : Byte}
    (hbuf : s.buf = #v[f[0], f[1], f[2], f[3], f[4], f[5], f[6], b]) (hf : f[0].getLsbD 7 = false) :
    s.measureRead = { s with
      history := s.history ++ [.stop], busActive := false, txnOpen := false
      rawH := rawHumidity f[1] f[2] f[3], rawT := rawTemperature f[3] f[4] f[5], decValid := true
      winH := s.winH.set s.wrIdx (rawHumidity f[1] f[2] f[3])
      winT := s.winT.set s.wrIdx (rawTemperature f[3] f[4] f[5])
      wrIdx := s.wrIdx + 1, count := if s.count = 3 then 3 else s.count + 1
      seqState := .ready, pos := .ending .ok } := by
  have hbusy : s.frameBusy = false := by simpa [State.frameBusy, hbuf] using hf
  have hh : s.frameH = rawHumidity f[1] f[2] f[3] := by simp [State.frameH, hbuf]
  have ht : s.frameT = rawTemperature f[3] f[4] f[5] := by simp [State.frameT, hbuf]
  rw [State.measureRead_eq, hbusy, hh, ht]
  rfl

/-- READING and DECODING of a frame that is not busy: seven steps (R95, R96). -/
theorem execSteps_measure_read {f : Vector Byte 7} (hp : s.pos = .readData 0)
    (hf : f[0].getLsbD 7 = false)
    (ha : s.answers = [f[0], f[1], f[2], f[3], f[4], f[5]].map (fun d => .done s.params.st.rxdAck d) ++
      .done s.params.st.rxdNack f[6] :: rest) :
    execSteps 7 .measure s = .next { s with
      answers := rest
      history := s.history ++
        [.rx true, .rx true, .rx true, .rx true, .rx true, .rx true, .rx false, .stop]
      busActive := false, txnOpen := false, lastBusStatus := s.params.st.rxdNack
      buf := #v[f[0], f[1], f[2], f[3], f[4], f[5], f[6], s.buf[7]]
      rawH := rawHumidity f[1] f[2] f[3], rawT := rawTemperature f[3] f[4] f[5], decValid := true
      winH := s.winH.set s.wrIdx (rawHumidity f[1] f[2] f[3])
      winT := s.winT.set s.wrIdx (rawTemperature f[3] f[4] f[5])
      wrIdx := s.wrIdx + 1, count := if s.count = 3 then 3 else s.count + 1
      seqState := .ready, pos := .ending .ok } := by
  have hrun := execSteps_measure_frame (k := 0) (pre := []) rfl hp rfl (overwritten_nil _).symm ha
  have hbuf := overwritten_frame s.buf f
  rw [List.nil_append, List.cons_append, State.measureRead_of_frame hbuf hf] at hrun
  refine hrun.trans ?_
  simp [hbuf, List.replicate]

/-- Settles O45: the trigger, the settling with the opening of the frame read, its seven bytes with the Decoding state,
and the end. -/
theorem measureCompletes : Obligations.MeasureCompletes := by
  intro s f x rest hp hc ho hf ha
  refine ⟨⟨_, exec_measure_first_ok hp hc ho ha⟩, ?_⟩
  have hrun := calc execSteps 16 .measure s
    _ = _ := execSteps_add 11 (execSteps_measure_trigger hp hc ho ha)
    _ = _ := execSteps_add 8 (execSteps_measure_settle rfl rfl rfl)
    _ = _ := execSteps_add 1 (execSteps_measure_read rfl hf rfl)
    _ = _ := execSteps_ending rfl rfl rfl
  rw [hrun, finish_of_setsErr_eq_false rfl, ← hp]
  simp [cycleEvents]

end Sys2Proof.Machine
end

section
/-! SUPPORT. The Smoothing Filter (R100 to R106): the window after a push and after many, and COUNT over every step. -/

namespace Sys2Proof.Machine

variable {s t : State}

/-! ### Push -/

/-- COUNT after a push as a number (R100). -/
theorem State.toNat_push_count (h t : Field) (s : State) :
    (s.push h t).count.toNat = min (s.count.toNat + 1) 3 := by
  rw [State.push_count, BitVec.toNat_ofNat]; omega

/-- WR_IDX after a push as a number (R100). -/
theorem State.val_push_wrIdx (h t : Field) (s : State) :
    (s.push h t).wrIdx.val = (s.wrIdx.val + 1) % 3 := by
  rw [State.push_wrIdx, Fin.val_add]; rfl

/-- Settles O46: FPUSH's step with a decoded sample, and its precondition without one. -/
theorem fpushPushesTheDecodedSample : Obligations.FpushPushesTheDecodedSample := by
  intro s hp
  refine ⟨fun hd => ?_, fun hd => exec_of_precondition_eq_false rfl hp hd⟩
  rw [exec_fpush_first hp hd, finish_of_setsErr_eq_false rfl, ← hp, ← count_succ_eq]
  rfl

/-! ### The window sums -/

/-- A window as the list of its three slots. -/
theorem toList_eq_slots (w : Vector Field 3) : w.toList = [w[0], w[1], w[2]] := by
  refine List.ext_getElem (by simp) fun i hi _ => ?_
  match i with
  | 0 | 1 | 2 => rfl

/-- A window sum is over the slots below COUNT (R102). -/
theorem windowSum_eq_sum_slots (w : Vector Field 3) (c : Nat) :
    windowSum w c =
      ((List.finRange 3).map (fun i : Fin 3 => if i.val < c then w[i].toNat else 0)).sum := by
  rw [windowSum, toList_eq_slots]
  match c with
  | 0 | 1 | 2 => simp [List.finRange]
  | c + 3 => simp [List.finRange]

/-- At most three fields are summed (R102). -/
theorem windowSum_le (w : Vector Field 3) (c : Nat) : windowSum w c ≤ 3145725 := by
  have hsum : windowSum w c ≤ (w.toList.take c).length • 1048575 := by
    rw [windowSum, ← List.length_map (f := BitVec.toNat)]
    exact List.sum_le_card_nsmul _ _ (List.forall_mem_map.mpr fun f _ => toNat_le_fieldMax f)
  rw [List.length_take, Vector.length_toList, smul_eq_mul] at hsum
  omega

/-- AVG_H_SUM does not wrap (R102). -/
theorem State.toNat_avgHSum (s : State) : s.avgHSum.toNat = windowSum s.winH s.count.toNat :=
  Nat.mod_eq_of_lt ((windowSum_le _ _).trans_lt (by decide))

/-- AVG_T_SUM does not wrap (R102). -/
theorem State.toNat_avgTSum (s : State) : s.avgTSum.toNat = windowSum s.winT s.count.toNat :=
  Nat.mod_eq_of_lt ((windowSum_le _ _).trans_lt (by decide))

/-- Settles O48: neither register wraps, and each holds a window sum. -/
theorem sumsAreOverThePopulatedSlots : Obligations.SumsAreOverThePopulatedSlots := by
  intro s
  rw [State.toNat_avgHSum, State.toNat_avgTSum]
  exact ⟨windowSum_eq_sum_slots _ _, windowSum_eq_sum_slots _ _, windowSum_le _ _, windowSum_le _ _⟩

/-! ### The averages -/

/-- Humidity is linear, so a sum of humidities is that of the summed fields (R92). -/
theorem sum_map_humidity (l : List Field) :
    (l.map humidity).sum = ((l.map BitVec.toNat).sum : Nat) * 100 / 2 ^ 20 := by
  induction l with
  | nil => simp
  | cons x l ih =>
    rw [List.map_cons, List.sum_cons, ih, humidity, List.map_cons, List.sum_cons, Nat.cast_add]
    ring

/-- Temperature is affine: each value of a sum brings its own offset (R92). -/
theorem sum_map_temperature (l : List Field) :
    (l.map temperature).sum = ((l.map BitVec.toNat).sum : Nat) * 200 / 2 ^ 20 - 50 * l.length := by
  induction l with
  | nil => simp
  | cons x l ih =>
    rw [List.map_cons, List.sum_cons, ih, temperature, List.map_cons, List.sum_cons, Nat.cast_add,
      List.length_cons, Nat.cast_succ]
    ring

/-- The populated slots are COUNT many (R36). -/
theorem State.length_take_count (w : Vector Field 3) (s : State) :
    (w.toList.take s.count.toNat).length = s.count.toNat := by
  have hc : s.count.toNat < 4 := s.count.isLt
  simp only [List.length_take, Vector.length_toList]
  omega

/-- Settles O49: the sums of the physical values are affine in the window sums. -/
theorem averageIsTheMeanOfThePhysicalValues : Obligations.AverageIsTheMeanOfThePhysicalValues := by
  intro s
  refine ⟨fun hc => if_pos hc, fun hc => ?_⟩
  have hc' : (s.count.toNat : Rat) ≠ 0 := Nat.cast_ne_zero.mpr fun h => hc (BitVec.eq_of_toNat_eq h)
  rw [State.average, if_neg hc, sum_map_humidity, sum_map_temperature, State.length_take_count,
    State.toNat_avgHSum, State.toNat_avgTSum]
  unfold windowSum
  congr 2 <;> field_simp

/-! ### The last three samples -/

/-- The window after the pushes `l`: sample `j` of the last three stands in slot j mod 3 (R104). -/
structure State.HoldsLastOf (s : State) (l : List (Field × Field)) : Prop where
  count : s.count.toNat = min l.length 3
  wrIdx : s.wrIdx.val = l.length % 3
  slots : ∀ (j : Nat) (h : j < l.length), l.length ≤ j + 3 →
    s.winH[j % 3] = (l[j]).1 ∧ s.winT[j % 3] = (l[j]).2

/-- A push takes the slot of the oldest of three samples (R100, R104). -/
theorem State.HoldsLastOf.push {l : List (Field × Field)} (hs : s.HoldsLastOf l) (x : Field × Field) :
    (s.push x.1 x.2).HoldsLastOf (l ++ [x]) where
  count := by rw [State.toNat_push_count, hs.count, List.length_append, List.length_singleton]; omega
  wrIdx := by rw [State.val_push_wrIdx, hs.wrIdx, List.length_append, List.length_singleton]; omega
  slots j hj hlast := by
    rw [List.length_append, List.length_singleton] at hj hlast
    by_cases hjl : j = l.length
    · simp [hjl, ← hs.wrIdx]
    · have hne : s.wrIdx.val ≠ j % 3 := by rw [hs.wrIdx]; omega
      have hold := hs.slots j (by omega) (by omega)
      rw [List.getElem_append_left (by omega)]
      simpa [Vector.getElem_set_ne _ _ hne] using hold

/-- The window holds the last samples after any pushes from reset (R104). -/
theorem State.pushAll_holdsLastOf (p : Params) (l : List (Field × Field)) :
    ((State.resetWith p).pushAll l).HoldsLastOf l := by
  induction l using List.reverseRecOn with
  | nil => exact ⟨rfl, rfl, nofun⟩
  | append_singleton l x ih =>
    rw [State.pushAll, List.foldl_append]
    exact ih.push x

/-- A full window is summed from any slot on, cyclically. -/
theorem windowSum_three (w : Vector Field 3) (m : Nat) : windowSum w 3 =
    w[m % 3].toNat + w[(m + 1) % 3].toNat + w[(m + 2) % 3].toNat := by
  induction m with
  | zero => rw [windowSum, toList_eq_slots]; simp [Nat.add_assoc]
  | succ m ih =>
    have hwrap : w[(m + 1 + 2) % 3] = w[m % 3] := by simp [Nat.add_assoc]
    rw [ih, hwrap]
    exact add_rotate _ _ _

/-- Where sample `j` of the last three stands in slot j mod 3, the window sum is theirs, in whichever order the
slots hold them (R104). -/
theorem windowSum_of_lastThree {α : Type} {w : Vector Field 3} {l : List α} {f : α → Field}
    (hslots : ∀ (j : Nat) (h : j < l.length), l.length ≤ j + 3 → w[j % 3] = f l[j]) :
    windowSum w (min l.length 3) = ((l.drop (l.length - 3)).map (fun x => (f x).toNat)).sum := by
  obtain hl | hl := Nat.lt_or_ge l.length 3
  · have htake : w.toList.take l.length = l.map f := by
      refine List.ext_getElem (by simp; omega) fun i hi _ => ?_
      have hil : i < l.length := by simp at hi; omega
      simpa [Nat.mod_eq_of_lt (hil.trans hl)] using hslots i hil (by omega)
    rw [Nat.min_eq_left hl.le, Nat.sub_eq_zero_of_le hl.le, windowSum, htake, List.map_map]
    rfl
  · obtain ⟨a, b, c, hlast⟩ := List.length_eq_three.mp
      (show (l.drop (l.length - 3)).length = 3 by rw [List.length_drop]; omega)
    have hsplit : l = l.take (l.length - 3) ++ [a, b, c] := by rw [← hlast, List.take_append_drop]
    generalize l.take (l.length - 3) = ys at hsplit
    subst hsplit
    have ha := hslots ys.length (by simp) (by simp)
    have hb := hslots (ys.length + 1) (by simp) (by simp)
    have hc := hslots (ys.length + 2) (by simp) (by simp)
    simp only [List.getElem_append_right, Nat.le_refl, Nat.le_add_right, Nat.sub_self,
      Nat.add_sub_cancel_left, List.getElem_cons_zero, List.getElem_cons_succ] at ha hb hc
    rw [Nat.min_eq_right hl, hlast, windowSum_three w ys.length, ha, hb, hc]
    simp [Nat.add_assoc]

/-- Settles O47: the window holds the last samples, so its sums are theirs. -/
theorem windowHoldsTheLastThreeSamples : Obligations.WindowHoldsTheLastThreeSamples := by
  intro p l
  have hs := State.pushAll_holdsLastOf p l
  rw [State.toNat_avgHSum, State.toNat_avgTSum, hs.count]
  exact ⟨rfl, hs.wrIdx, hs.slots, windowSum_of_lastThree fun j h hl => (hs.slots j h hl).1,
    windowSum_of_lastThree fun j h hl => (hs.slots j h hl).2⟩

/-! ### COUNT over every step -/

/-- A push does not make COUNT smaller (R100). -/
theorem State.count_le_push (h t : Field) (s : State) : s.count ≤ (s.push h t).count := by
  have hc : s.count.toNat < 4 := s.count.isLt
  rw [BitVec.le_def, State.toNat_push_count]
  omega

/-- The Decoding state of MEASURE does not make COUNT smaller: it leaves the window or pushes once (R96). -/
theorem State.count_le_measureDecode (s : State) : s.count ≤ s.measureDecode.count := by
  obtain ⟨-, -, hu⟩ | ⟨-, -, hu⟩ | ⟨-, hu⟩ := s.measureDecode_cases <;> rw [hu]
  · exact BitVec.le_refl _
  · exact BitVec.le_refl _
  · exact State.count_le_push s.frameH s.frameT s.decodeFrame

/-- Nor does what MEASURE does after the last frame byte, in a state with the COUNT of `s` (R95). -/
theorem State.count_le_measureRead {u : State} (hu : u.count = s.count) :
    s.count ≤ u.measureRead.count :=
  hu ▸ State.count_le_measureDecode { u.stop with seqState := .decoding }

/-- No command makes COUNT smaller (R105). -/
theorem ExecStep.count_le {i : Instr} (h : ExecStep s i t) : s.count ≤ t.count := by
  cases h with
  | pushes => exact State.count_le_push s.rawH s.rawT s
  | readLast => exact State.count_le_measureRead rfl
  | _ => simp [State.afterEvent, State.raised, State.measureErr, State.measureTriggered]

/-- Neither does a step of the SEQUENCER. -/
theorem sequencerStep_count_le (h : sequencerStep s = .next t) : s.count ≤ t.count := by
  obtain ⟨-, rfl⟩ | ⟨-, i, -, hi⟩ | ⟨-, -, rfl⟩ := sequencerStep_cases h
  · exact BitVec.le_refl _
  · exact (execStep_of_exec hi).count_le
  · exact BitVec.le_refl _

/-- A HOST write leaves COUNT: it is dropped, ignored, or writes CMDLATCH or BUF (R44 to R47). -/
theorem State.hostWrite_count (r : Reg) (v : Word) (s : State) : (s.hostWrite r v).count = s.count := by
  by_cases hr : r = .cmd ∨ r = .buf0 ∨ r = .buf1
  · cases hb : s.busy
    · obtain rfl | rfl | rfl := hr <;> simp [State.hostWrite, hb, State.writeBuf0, State.writeBuf1]
    · rw [State.hostWrite_of_busy v hr hb, State.droppedWrite_count]
  · rw [State.hostWrite_of_readOnly v hr]

/-- No HOST access writes COUNT (R43 to R47). -/
theorem hostStep_count {a : HostAccess} (h : hostStep a s = .next t) : t.count = s.count := by
  obtain ⟨addr, width, r, -, -, rfl⟩ | ⟨addr, width, v, r, -, -, rfl⟩ := hostStep_cases h
  · obtain ⟨v, d, hread, -⟩ := State.hostRead_eq r s
    rw [hread]
  · exact State.hostWrite_count r v s

/-- Settles O54: each kind of turn but the reset input. -/
theorem onlyResetEmptiesTheWindow : Obligations.OnlyResetEmptiesTheWindow := by
  intro s t hr h
  obtain ⟨-, hq⟩ | ⟨rest, -, hq⟩ | ⟨rest, -, rfl⟩ | ⟨rest, ha, -⟩ | ⟨a, rest, -, hh⟩ := step_cases h
  · exact sequencerStep_count_le hq
  · exact sequencerStep_count_le (s := { s with agenda := rest }) hq
  · rw [State.waitPass_eq]; exact BitVec.le_refl _
  · exact absurd ha (hr rest)
  · exact BitVec.le_of_eq (hostStep_count hh).symm

end Sys2Proof.Machine
end

section
/-! SUPPORT. How a command ends (R107, R108, R110): the ending step, USAGE, and the results a command may raise. -/

namespace Sys2Proof.Machine

variable {s t : State} {i : Instr}

/-! ### The end of a command -/

/-- ERR after a command's end, as R107 names the two results that set it. -/
theorem or_setsErr (b : Bool) (r : Result) :
    (b || r.setsErr) = (b || r == .usage || r == .illegal) := by
  rw [Bool.or_assoc]
  cases r <;> rfl

/-- Settles O19: the ending step is `finish`. -/
theorem endingStepFinishes : Obligations.EndingStepFinishes := by
  intro i s r hw hb hp
  rw [exec_of_ending hw hb hp, State.finish, or_setsErr]

/-- How a step of a command can end it: stopped by its precondition, at its ending position, or in its first step
with a result of its own (R107, R110). -/
theorem ExecStep.end_cases (h : ExecStep s i t) :
    t.busy = s.busy ∨
    (s.pos = .first ∧ precondition i s = false ∧ t.result = .usage) ∨
    s.pos = .ending t.result ∨
    t.result = .ok ∨ (i = .decode ∧ t.result = .sensorBusy) := by
  cases h with
  | usage hp hpre => exact .inr (.inl ⟨hp, hpre, rfl⟩)
  | ends hp => exact .inr (.inr (.inl hp))
  | cfg | stops | decodes | pushes => exact .inr (.inr (.inr (.inl rfl)))
  | decodesBusy => exact .inr (.inr (.inr (.inr ⟨rfl, rfl⟩)))
  | _ =>
    exact .inl (by simp [State.afterEvent, State.raised, State.measureErr,
      State.measureTriggered, State.measureRead])

/-- DECODE has no precondition (R110). -/
theorem ne_decode_of_precondition_eq_false (hpre : precondition i s = false) : i ≠ .decode := by
  rintro rfl
  cases hpre

/-- The result of an ending position is one the command may raise, and not USAGE. -/
theorem mayEnd_of_posBelongs {r : Result} (h : posBelongs i (.ending r) = true) :
    mayEnd i r = true ∧ r ≠ .usage := by
  simp only [posBelongs, Bool.and_eq_true, bne_iff_ne] at h
  exact ⟨h.1.2, h.2⟩

/-- Settles O24: the four ways a command ends, each with a result of its row. -/
theorem commandEndsWithAResultItMayRaise : Obligations.CommandEndsWithAResultItMayRaise := by
  intro i s t _ hb hp h hb'
  obtain hk | ⟨-, hpre, hr⟩ | hpos | hr | ⟨rfl, hr⟩ := (execStep_of_exec h).end_cases
  · simp [hk, hb] at hb'
  · simpa [hr, mayEnd] using ne_decode_of_precondition_eq_false hpre
  · exact (mayEnd_of_posBelongs (hpos ▸ hp)).1
  · rw [hr]; rfl
  · rw [hr]; rfl

/-- No step goes to an end with USAGE: a command stopped by its precondition ends at once (R54, R110). -/
theorem ExecStep.pos_ne_usage (h : ExecStep s i t) (hs : s.pos ≠ .ending .usage) :
    t.pos ≠ .ending .usage := by
  cases h with
  | unanswered => rwa [State.nextAnswer_pos]
  | fails _ _ hr | measureFails hr =>
    exact fun hu => (mayEnd_of_posBelongs hr).2 (SeqPos.ending.inj hu)
  | start _ _ hr | wrb _ _ hr =>
    obtain rfl | ⟨rfl, -⟩ := hr <;> nofun
  | @wrseqByte c k | @rdseqByte c k =>
    rw [State.goto_pos, afterByte]
    split <;> nofun
  | @readLast as n d =>
    obtain ⟨-, -, hm⟩ | ⟨-, -, hm⟩ | ⟨-, hm⟩ := State.measureDecode_cases _ <;>
      rw [State.measureRead, hm] <;> nofun
  | _ => nofun

/-- Settles O21: the stopped first step by its own lemma, and the two ways to USAGE excluded. -/
theorem usageExactlyWhenThePreconditionFails : Obligations.UsageExactlyWhenThePreconditionFails := by
  intro i s hw hb
  refine ⟨exec_of_precondition_eq_false hw, fun hpre hs t h => ?_⟩
  have hstep := execStep_of_exec h
  refine ⟨hstep.pos_ne_usage hs, fun hb' hr => ?_⟩
  obtain hk | ⟨hp, hfalse, -⟩ | hpos | hok | ⟨-, hbusy⟩ := hstep.end_cases
  · simp [hk, hb] at hb'
  · simp [hpre hp] at hfalse
  · exact hs (hr ▸ hpos)
  · simp [hr] at hok
  · simp [hr] at hbusy

end Sys2Proof.Machine
end

section
/-! SUPPORT. No command reads ERR or OVERRUN (R112): from two states that differ only there, every operation, procedure
and command does the same. -/

namespace Sys2Proof.Machine

variable {s : State} {e o : Bool}

/-! ### Operations -/

/-- `s` with other values of ERR and OVERRUN. -/
def State.withFlags (e o : Bool) (s : State) : State := { s with err := e, overrun := o }

theorem State.withFlags_pos : (s.withFlags e o).pos = s.pos := rfl

/-- An operation that neither reads nor writes ERR and OVERRUN. -/
def FlagBlind (f : State → State) : Prop :=
  ∀ e o s, f (s.withFlags e o) = (f s).withFlags e o

theorem FlagBlind.comp {f g : State → State} (hf : FlagBlind f) (hg : FlagBlind g) :
    FlagBlind (fun s => f (g s)) :=
  fun e o s => (congrArg f (hg e o s)).trans (hf e o (g s))

/-- A choice that the state does not take part in. -/
theorem FlagBlind.ite {f g : State → State} (c : Prop) [Decidable c] (hf : FlagBlind f)
    (hg : FlagBlind g) : FlagBlind (fun s => if c then f s else g s) := by
  intro e o s
  dsimp only
  split
  · exact hf e o s
  · exact hg e o s

theorem flagBlind_id : FlagBlind id := fun _ _ _ => rfl

theorem flagBlind_goto (p : SeqPos) : FlagBlind (State.goto p) := fun _ _ _ => rfl

theorem flagBlind_stop : FlagBlind State.stop := fun _ _ _ => rfl

theorem flagBlind_fail : FlagBlind State.fail := by
  intro e o s
  unfold State.fail
  change (if s.params.abortStop then _ else _) = _
  split <;> rfl

theorem flagBlind_raised (r : Result) : FlagBlind (State.raised r) := fun _ _ _ => rfl

theorem flagBlind_measureErr (r : Result) : FlagBlind (State.measureErr r) := fun _ _ _ => rfl

theorem flagBlind_measureTriggered : FlagBlind State.measureTriggered := fun _ _ _ => rfl

theorem flagBlind_measureDecode : FlagBlind State.measureDecode := by
  intro e o s
  unfold State.measureDecode
  change (if s.frameBusy then if s.retries < s.params.busyRetries then _ else _ else _) = _
  split
  · split <;> rfl
  · rfl

theorem flagBlind_measureRead : FlagBlind State.measureRead :=
  flagBlind_measureDecode.comp fun _ _ _ => rfl

/-! ### Bus waits -/

/-- A bus wait that neither reads nor writes ERR and OVERRUN. -/
def WaitFlagBlind (w : State → Option State) : Prop :=
  ∀ e o s, w (s.withFlags e o) = (w s).map (State.withFlags e o)

/-- The bus's answer does not depend on the flags. -/
theorem State.nextAnswer_withFlags :
    (s.withFlags e o).nextAnswer = (s.nextAnswer.1, s.nextAnswer.2.withFlags e o) := by
  simp only [State.nextAnswer, State.withFlags]
  cases s.answers <;> rfl

theorem State.waited_withFlags {ev : BusEvent} {onDone : Byte → Byte → State → State}
    {onTimeout : State → State} (hd : ∀ st d, FlagBlind (onDone st d)) (ht : FlagBlind onTimeout) :
    (s.withFlags e o).waited ev onDone onTimeout =
      (s.waited ev onDone onTimeout).map (State.withFlags e o) := by
  have hparams : (s.withFlags e o).params = s.params := rfl
  unfold State.waited
  rw [State.nextAnswer_withFlags, hparams]
  obtain ⟨a, u⟩ := s.nextAnswer
  cases a with
  | done st d => exact congrArg some (hd st d e o { u.emit ev with lastBusStatus := st })
  | silent =>
    dsimp only
    split
    · rfl
    · exact congrArg some (ht e o (u.emit ev))

theorem linkWait_flagBlind {ev : BusEvent} {onDone : Byte → State → State}
    (hd : ∀ d, FlagBlind (onDone d)) : WaitFlagBlind (State.linkWait ev onDone) := fun _ _ _ =>
  State.waited_withFlags (fun _ d => (flagBlind_goto _).comp (hd d)) (flagBlind_goto _)

section
variable {ok : State → State} {err : Result → State → State}
  (hok : FlagBlind ok) (herr : ∀ r, FlagBlind (err r))
include hok herr

theorem openStart_flagBlind : WaitFlagBlind (State.openStart ok err) := fun _ _ _ =>
  State.waited_withFlags (fun _ _ => .ite _ hok ((herr _).comp flagBlind_fail))
    ((herr _).comp flagBlind_fail)

theorem openAddress_flagBlind (a7 : DeviceAddr) (d : Direction) :
    WaitFlagBlind (State.openAddress a7 d ok err) := fun _ _ _ =>
  State.waited_withFlags
    (fun _ _ => .ite _ (hok.comp fun _ _ _ => rfl)
      (.ite _ ((herr _).comp flagBlind_fail) ((herr _).comp flagBlind_fail)))
    ((herr _).comp flagBlind_fail)

theorem writeByte_flagBlind (b : Byte) : WaitFlagBlind (State.writeByte b ok err) := fun _ _ _ =>
  State.waited_withFlags (fun _ _ => .ite _ hok ((herr _).comp flagBlind_fail))
    ((herr _).comp flagBlind_fail)

theorem readByte_flagBlind (i : Fin 8) (ack : Bool) :
    WaitFlagBlind (State.readByte i ack ok err) := fun _ _ _ =>
  State.waited_withFlags
    (fun _ _ => .ite _ (hok.comp fun _ _ _ => rfl) ((herr _).comp flagBlind_fail))
    ((herr _).comp flagBlind_fail)

end

theorem measureTrigger_flagBlind : WaitFlagBlind State.measureTrigger := fun e o s =>
  openStart_flagBlind (flagBlind_goto _) flagBlind_measureErr e o
    { s with seqState := .triggering }

theorem measureTrigByte_flagBlind (k : Fin 3) : WaitFlagBlind (State.measureTrigByte k) :=
  writeByte_flagBlind (.ite _ flagBlind_measureTriggered (flagBlind_goto _)) flagBlind_measureErr _

theorem measureReadByte_flagBlind (k : Fin 7) : WaitFlagBlind (State.measureReadByte k) :=
  readByte_flagBlind (.ite _ flagBlind_measureRead (flagBlind_goto _)) flagBlind_measureErr _ _

theorem wrseqByte_flagBlind (n : BitVec 4) (k : Fin 8) : WaitFlagBlind (State.wrseqByte n k) :=
  fun e o s => writeByte_flagBlind (flagBlind_goto _) flagBlind_raised s.buf[k] e o s

theorem rdseqByte_flagBlind (n : BitVec 4) (k : Fin 8) : WaitFlagBlind (State.rdseqByte n k) :=
  readByte_flagBlind (flagBlind_goto _) flagBlind_raised k _

/-! ### Commands -/

/-- Two outcomes of a step: where the first is a next state, the second is that state but for ERR and the value `o` of
OVERRUN. -/
def SameButFlags (o : Bool) (x x' : StepOutcome) : Prop :=
  ∀ t, x = .next t → ∃ e', x' = .next (t.withFlags e' o)

theorem SameButFlags.fault {f f' : Fault} : SameButFlags o (.fault f) (.fault f') :=
  fun _ h => by cases h

theorem SameButFlags.next {f : State → State} (hf : FlagBlind f) :
    SameButFlags o (.next (f s)) (.next (f (s.withFlags e o))) := by
  rintro _ ⟨⟩
  exact ⟨e, by rw [hf]⟩

/-- A command's end takes its result into ERR and reads neither flag for anything else (R107). -/
theorem SameButFlags.finish {f : State → State} (hf : FlagBlind f) (r : Result) :
    SameButFlags o (.next ((f s).finish r)) (.next ((f (s.withFlags e o)).finish r)) := by
  rintro _ ⟨⟩
  exact ⟨e || r.setsErr, by rw [hf]; rfl⟩

theorem SameButFlags.wait {w : State → Option State} (hw : WaitFlagBlind w) :
    SameButFlags o (s.stepOr (w s)) ((s.withFlags e o).stepOr (w (s.withFlags e o))) := by
  rintro _ ⟨⟩
  refine ⟨e, ?_⟩
  rw [State.stepOr, hw, State.nextAnswer_withFlags]
  cases w s <;> rfl

/-- A check of a command reads neither flag, so it is one condition for both states. -/
theorem SameButFlags.ite {c : Prop} [Decidable c] {x y x' y' : StepOutcome}
    (hx : SameButFlags o x x') (hy : SameButFlags o y y') :
    SameButFlags o (if c then x else y) (if c then x' else y') := by
  split
  · exact hx
  · exact hy

/-- A step that only finishes. -/
theorem SameButFlags.ends (r : Result) :
    SameButFlags o (.next (s.finish r)) (.next ((s.withFlags e o).finish r)) :=
  .finish flagBlind_id r

theorem execCfg_sameButFlags (b : Byte) :
    SameButFlags o (execCfg b s) (execCfg b (s.withFlags e o)) := by
  unfold execCfg
  rw [State.withFlags_pos]
  split
  · exact .ite (.ends _) (.finish (f := fun s => { s with busDiv := b, configured := true })
      (fun _ _ _ => rfl) _)
  · exact .fault

theorem execStart_sameButFlags : SameButFlags o (execStart s) (execStart (s.withFlags e o)) := by
  unfold execStart
  rw [State.withFlags_pos]
  split
  · exact .ite (.wait (w := fun s => s.linkWait s.startEvent fun _ u => u)
      fun e o s => linkWait_flagBlind (ev := s.startEvent) (fun _ => flagBlind_id) e o s) (.ends _)
  · exact .ends _
  · exact .fault

theorem execStop_sameButFlags : SameButFlags o (execStop s) (execStop (s.withFlags e o)) := by
  unfold execStop
  rw [State.withFlags_pos]
  split
  · exact .ite (.finish flagBlind_stop _) (.ends _)
  · exact .fault

theorem execWrb_sameButFlags (b : Byte) :
    SameButFlags o (execWrb b s) (execWrb b (s.withFlags e o)) := by
  unfold execWrb
  rw [State.withFlags_pos]
  split
  · exact .ite (.wait (linkWait_flagBlind fun _ => flagBlind_id)) (.ends _)
  · exact .ends _
  · exact .fault

theorem execRdb_sameButFlags (ack : Bool) :
    SameButFlags o (execRdb ack s) (execRdb ack (s.withFlags e o)) := by
  unfold execRdb
  rw [State.withFlags_pos]
  split
  · exact .ite (.wait (linkWait_flagBlind fun _ _ _ _ => rfl)) (.ends _)
  · exact .ends _
  · exact .fault

theorem execOpenTxn_sameButFlags (a7 : DeviceAddr) (d : Direction) :
    SameButFlags o (execOpenTxn a7 d s) (execOpenTxn a7 d (s.withFlags e o)) := by
  unfold execOpenTxn
  rw [State.withFlags_pos]
  split
  · exact .ite (.wait (openStart_flagBlind (flagBlind_goto _) flagBlind_raised)) (.ends _)
  · exact .wait (openAddress_flagBlind (flagBlind_goto _) flagBlind_raised a7 d)
  · exact .ends _
  · exact .fault

theorem execWrseq_sameButFlags (n : BitVec 4) :
    SameButFlags o (execWrseq n s) (execWrseq n (s.withFlags e o)) := by
  unfold execWrseq
  rw [State.withFlags_pos]
  refine .ite ?_ .fault
  split
  · exact .ite (.wait (wrseqByte_flagBlind n 0)) (.ends _)
  · exact .wait (wrseqByte_flagBlind n _)
  · exact .ends _
  · exact .fault

theorem execRdseq_sameButFlags (n : BitVec 4) :
    SameButFlags o (execRdseq n s) (execRdseq n (s.withFlags e o)) := by
  unfold execRdseq
  rw [State.withFlags_pos]
  refine .ite ?_ .fault
  split
  · exact .ite (.wait (rdseqByte_flagBlind n 0)) (.ends _)
  · exact .wait (rdseqByte_flagBlind n _)
  · exact .ends _
  · exact .fault

theorem execDecode_sameButFlags : SameButFlags o (execDecode s) (execDecode (s.withFlags e o)) := by
  unfold execDecode
  rw [State.withFlags_pos]
  split
  · exact .ite (.finish (f := fun s => { s with decValid := false }) (fun _ _ _ => rfl) _)
      (.finish (f := State.decodeFrame) (fun _ _ _ => rfl) _)
  · exact .fault

theorem execFpush_sameButFlags : SameButFlags o (execFpush s) (execFpush (s.withFlags e o)) := by
  unfold execFpush
  rw [State.withFlags_pos]
  split
  · exact .ite (.finish (f := fun s => s.push s.rawH s.rawT) (fun _ _ _ => rfl) _) (.ends _)
  · exact .fault

theorem execMeasure_sameButFlags :
    SameButFlags o (execMeasure s) (execMeasure (s.withFlags e o)) := by
  unfold execMeasure
  rw [State.withFlags_pos]
  split
  · exact .ite (.wait (w := fun s => State.measureTrigger { s with retries := 0 })
      fun e o s => measureTrigger_flagBlind e o { s with retries := 0 }) (.ends _)
  · exact .wait measureTrigger_flagBlind
  · exact .wait (openAddress_flagBlind (flagBlind_goto _) flagBlind_measureErr _ _)
  · exact .wait (measureTrigByte_flagBlind _)
  · exact .next (f := fun s => State.goto .readStart { s.settle with seqState := .reading })
      fun _ _ _ => rfl
  · exact .wait (openStart_flagBlind (flagBlind_goto _) flagBlind_measureErr)
  · exact .wait (openAddress_flagBlind (flagBlind_goto _) flagBlind_measureErr _ _)
  · exact .wait (measureReadByte_flagBlind _)
  · exact .ends _
  · exact .fault

/-- Every command steps the same from states that differ only in ERR and OVERRUN. -/
theorem exec_sameButFlags (i : Instr) : SameButFlags o (exec i s) (exec i (s.withFlags e o)) := by
  cases i with
  | cfg b => exact execCfg_sameButFlags b
  | start => exact execStart_sameButFlags
  | stop | close => exact execStop_sameButFlags
  | wrb b => exact execWrb_sameButFlags b
  | rdb ack => exact execRdb_sameButFlags ack
  | openTxn a7 d => exact execOpenTxn_sameButFlags a7 d
  | wrseq n => exact execWrseq_sameButFlags n
  | rdseq n => exact execRdseq_sameButFlags n
  | decode => exact execDecode_sameButFlags
  | fpush => exact execFpush_sameButFlags
  | measure => exact execMeasure_sameButFlags

/-- Settles O25: `exec_sameButFlags`, whose ERR afterwards is the free value the statement asks for. -/
theorem noCommandReadsErrOrOverrun : Obligations.NoCommandReadsErrOrOverrun :=
  fun i _ t _ _ h => exec_sameButFlags i t h

end Sys2Proof.Machine
end

section
/-! SUPPORT. The reset input (R123), and the invariant of the block over every step: each clause for a step of a command
by the cases of `ExecStep`, then the turns. -/

namespace Sys2Proof.Machine

variable {s t : State} {i : Instr}

/-! ### The reset input -/

/-- The reset input gives the values of the table of R39: it writes none of the environment's fields, and the table
names none of them. -/
theorem State.resetInput_atReset (s : State) : s.resetInput.AtReset := State.resetWith_atReset s.params

theorem step_reset {rest : List Turn} (ha : s.agenda = .reset :: rest) :
    step s = .next (State.resetInput { s with agenda := rest }) := by
  simp [step, turnStep, ha]

/-- Settles O2: the step is `resetInput`, whatever the state. -/
theorem resetInputActsAtOnce : Obligations.ResetInputActsAtOnce := fun _ _ ha =>
  ⟨_, step_reset ha, State.resetInput_atReset _, rfl, rfl⟩

/-! ### Operations -/

/-- Each event in turn decides BUS_ACTIVE or leaves it (R22). -/
@[simp] theorem activeAfter_append (l m : List BusEvent) :
    activeAfter (l ++ m) = m.foldl (fun a e => e.busActiveAfter a) (activeAfter l) :=
  List.foldl_append

/-- `Fail` keeps BUS_ACTIVE what H says (R78). -/
theorem State.activeAfter_fail (s : State) :
    activeAfter s.fail.history = (!s.params.abortStop && activeAfter s.history) := by
  rw [State.fail_history]
  cases s.params.abortStop
  · simp
  · simp [BusEvent.busActiveAfter]

/-- OpenSeq's first event activates the bus (R22, R79). -/
@[simp] theorem State.startEvent_busActiveAfter (s : State) (b : Bool) :
    s.startEvent.busActiveAfter b = true := by
  unfold State.startEvent
  split <;> rfl

@[simp] theorem State.measureDecode_result (s : State) : s.measureDecode.result = s.result := by
  obtain ⟨-, -, h⟩ | ⟨-, -, h⟩ | ⟨-, h⟩ := s.measureDecode_cases <;> rw [h]
  rfl

@[simp] theorem State.measureDecode_txnOpen (s : State) : s.measureDecode.txnOpen = s.txnOpen := by
  rw [State.measureDecode_frame]

/-- The frame read ends in a retry, which counts one, or at the end of MEASURE with SEQ_STATE READY or INVALID (R96). -/
theorem State.measureRead_cases (s : State) :
    (s.retries < s.params.busyRetries ∧ s.measureRead.pos = .trigStart ∧
      s.measureRead.seqState = .triggering ∧ s.measureRead.retries = s.retries + 1) ∨
    (∃ r, s.measureRead.pos = .ending r ∧ posBelongs .measure (.ending r) = true ∧
      s.measureRead.seqState.betweenCycles = true ∧ s.measureRead.retries = s.retries) := by
  unfold State.measureRead
  obtain ⟨-, hr, h⟩ | ⟨-, -, h⟩ | ⟨-, h⟩ :=
    State.measureDecode_cases { s.stop with seqState := .decoding } <;> rw [h]
  · exact .inl ⟨hr, rfl, rfl, rfl⟩
  · exact .inr ⟨_, rfl, rfl, rfl, rfl⟩
  · exact .inr ⟨_, rfl, rfl, rfl, rfl⟩

/-- Before the window is full, the next slot is the first unpopulated one (R104). -/
def State.WindowFills (s : State) : Prop := s.count.toNat < 3 → s.wrIdx.val = s.count.toNat

/-- A push populates the next slot (R100). -/
theorem State.WindowFills.push (hs : s.WindowFills) (h t : Field) : (s.push h t).WindowFills := by
  intro hc
  unfold State.WindowFills at hs
  rw [State.toNat_push_count] at hc ⊢
  rw [State.val_push_wrIdx]
  omega

/-- The Decoding state pushes once or leaves the window (R96). -/
theorem State.WindowFills.measureDecode (hs : s.WindowFills) : s.measureDecode.WindowFills := by
  obtain ⟨-, -, h⟩ | ⟨-, -, h⟩ | ⟨-, h⟩ := s.measureDecode_cases <;> rw [h]
  · exact hs
  · exact hs
  · exact State.WindowFills.push (s := s.decodeFrame) hs s.frameH s.frameT

theorem State.WindowFills.measureRead (hs : s.WindowFills) : s.measureRead.WindowFills :=
  State.WindowFills.measureDecode (s := { s.stop with seqState := .decoding }) hs

/-! ### A step of a command -/

/-- A step of a command leaves BUSY, RESULT and ERR, or is the command's `finish` (R107, R127). -/
theorem ExecStep.goes_on_or_finishes (h : ExecStep s i t) :
    (t.busy = s.busy ∧ t.result = s.result ∧ t.err = s.err) ∨ ∃ u r, t = State.finish r u := by
  cases h with
  | usage | ends | cfg | stops | decodesBusy | decodes | pushes => exact .inr ⟨_, _, rfl⟩
  | _ =>
    exact .inl (by simp [State.afterEvent, State.raised, State.measureErr, State.measureTriggered,
      State.measureRead])

/-- WRSEQ and RDSEQ go on to a byte below the count, or to their end (R80, R81). -/
theorem posBelongs_afterByte {c : BitVec 4} {k : Fin 8} (hi : i = .wrseq c ∨ i = .rdseq c)
    (hc : countOk c = true) : posBelongs i (afterByte c k) = true := by
  rw [afterByte_eq]
  split
  next hk =>
    have hnext := val_add_one_of_lt_count hc hk
    obtain rfl | rfl := hi <;> exact decide_eq_true (hnext ▸ hk)
  · obtain rfl | rfl := hi <;> rfl

/-- A command steps from one of its positions to another (R38). -/
theorem ExecStep.posBelongs (h : ExecStep s i t) (hp : posBelongs i s.pos = true) :
    posBelongs i t.pos = true := by
  cases h with
  | unanswered => rwa [State.nextAnswer_pos]
  | start _ _ hr | wrb _ _ hr => obtain rfl | ⟨rfl, -⟩ := hr <;> rfl
  | wrseqByte hc => exact posBelongs_afterByte (.inl rfl) hc
  | rdseqByte hc => exact posBelongs_afterByte (.inr rfl) hc
  | fails _ _ hr | measureFails hr => exact hr
  | readLast =>
    obtain ⟨-, hpos, -⟩ | ⟨r, hpos, hr, -⟩ := State.measureRead_cases _ <;> rw [hpos]
    · rfl
    · exact hr
  | _ => rfl

/-- BUS_ACTIVE stays what H says (R22). -/
theorem ExecStep.active (h : ExecStep s i t) (ha : s.busActive = activeAfter s.history) :
    t.busActive = activeAfter t.history := by
  cases h <;> simp [State.afterEvent, State.raised, State.measureErr, State.measureTriggered,
    State.measureRead, State.measureDecode_busActive, State.fail_busActive, State.activeAfter_fail,
    BusEvent.busActiveAfter, ha]

/-- The window keeps filling slot by slot (R104). -/
theorem ExecStep.windowFills (h : ExecStep s i t) (hs : s.WindowFills) : t.WindowFills := by
  cases h with
  | pushes => exact State.WindowFills.push hs s.rawH s.rawT
  | readLast => exact State.WindowFills.measureRead (by exact hs)
  | _ =>
    simpa [State.WindowFills, State.afterEvent, State.raised, State.measureErr,
      State.measureTriggered] using hs

/-- RETRIES is left, set to 0, or counts a retry that P_BUSY_RETRIES still allows (R30, R96). -/
theorem ExecStep.retries_le (h : ExecStep s i t) (hs : s.retries ≤ s.params.busyRetries) :
    t.retries ≤ t.params.busyRetries := by
  obtain ⟨hparams, -⟩ := h.interface_unchanged
  rw [hparams]
  cases h with
  | trigStart hp =>
    obtain ⟨-, -, rfl⟩ | ⟨-, rfl⟩ := hp
    · exact Nat.zero_le _
    · exact hs
  | measureFails _ _ hrt =>
    obtain rfl | ⟨-, rfl⟩ := hrt
    · simpa [State.measureErr] using hs
    · rw [State.measureErr, State.goto_retries, State.fail_retries]
      exact Nat.zero_le _
  | @readLast as n d =>
    obtain ⟨hlt, -, -, hr⟩ | ⟨r, -, -, -, hr⟩ := State.measureRead_cases _ <;> rw [hr]
    · have hlt : s.retries < s.params.busyRetries := hlt
      show s.retries + 1 ≤ s.params.busyRetries
      bv_omega
    · exact hs
  | _ => simpa [State.afterEvent, State.raised, State.measureTriggered] using hs

/-- Outside MEASURE, SEQ_STATE is the one a cycle left (R28). -/
theorem seqStateFits_of_ne_measure (hi : i ≠ .measure) {p : SeqPos} (hp : posBelongs i p = true)
    (x : SeqState) : seqStateFits p x = x.betweenCycles := by
  cases p <;> simp_all [posBelongs, seqStateFits]

/-- MEASURE shows its state (R28, R95). -/
theorem ExecStep.seqStateFits_measure (h : ExecStep s .measure t)
    (hs : seqStateFits s.pos s.seqState = true) : seqStateFits t.pos t.seqState = true := by
  cases h with
  | usage hp | ends hp => rwa [hp] at hs
  | unanswered => simpa using hs
  | stops hi => simp at hi
  | fails hi => exact absurd rfl hi
  | trigStart | triggered | settles | measureFails => rfl
  | trigAddress hp | trigByte hp | readStart hp | readAddress hp | readByte hp => rwa [hp] at hs
  | readLast =>
    obtain ⟨-, hpos, hx, -⟩ | ⟨r, hpos, -, hx, -⟩ := State.measureRead_cases _ <;> rw [hpos]
    · rw [hx]; rfl
    · exact hx

/-- SEQ_STATE stays that of the position (R28). -/
theorem ExecStep.seqStateFits (h : ExecStep s i t) (hp : Machine.posBelongs i s.pos = true)
    (hs : seqStateFits s.pos s.seqState = true) : seqStateFits t.pos t.seqState = true := by
  by_cases hi : i = .measure
  · subst hi
    exact h.seqStateFits_measure hs
  · rw [seqStateFits_of_ne_measure hi (h.posBelongs hp), (h.cycle_unchanged hi).1]
    rwa [seqStateFits_of_ne_measure hi hp] at hs

/-- What the invariant says of the bus at the position `p`. -/
theorem State.Inv.busFits_at (hinv : s.Inv) {p : SeqPos} (hp : s.pos = p) :
    busFits p s.busActive s.txnOpen = true := hp ▸ hinv.bus

/-- The bus is active at the address phase (R79). -/
theorem State.Inv.busActive_of_address (hinv : s.Inv)
    (hp : s.pos = .address ∨ s.pos = .trigAddress ∨ s.pos = .readAddress) : s.busActive = true := by
  obtain hp | hp | hp := hp <;>
    (have hbus := hinv.busFits_at hp; simp only [busFits, Bool.and_eq_true] at hbus; exact hbus.1)

/-- WRSEQ and RDSEQ need an open transaction (R83, R84). -/
theorem txnOpen_of_precondition_loop {c : BitVec 4} (hi : i = .wrseq c ∨ i = .rdseq c)
    (hpre : precondition i s = true) : s.txnOpen = true := by
  obtain rfl | rfl := hi <;> (simp only [precondition, Bool.and_eq_true] at hpre; exact hpre.1.2)

/-- WRSEQ and RDSEQ send and receive on the active bus of an open transaction (R23, R83, R84). -/
theorem State.Inv.inTransaction {c : BitVec 4} {k : Fin 8} (hinv : s.Inv)
    (hi : i = .wrseq c ∨ i = .rdseq c)
    (h : s.pos = .data k ∨ s.pos = .first ∧ precondition i s = true ∧ k = 0) :
    s.busActive = true ∧ s.txnOpen = true := by
  obtain hp | ⟨-, hpre, -⟩ := h
  · simpa [busFits] using hinv.busFits_at hp
  · have ho := txnOpen_of_precondition_loop hi hpre
    exact ⟨hinv.openActive ho, ho⟩

/-- OpenSeq starts with no transaction open (R82, R95). -/
theorem State.Inv.txnOpen_of_startsOpenSeq (hinv : s.Inv) (h : s.StartsOpenSeq) :
    s.txnOpen = false := by
  obtain ⟨-, ho⟩ | hp | hp := h
  · exact ho
  all_goals
    have hbus := hinv.busFits_at hp
    simp only [busFits, Bool.and_eq_true, Bool.not_eq_true'] at hbus
    exact hbus.2

/-- An open transaction on an active bus fits wherever the loop of WRSEQ and RDSEQ goes next. -/
theorem busFits_afterByte (c : BitVec 4) (k : Fin 8) : busFits (afterByte c k) true true = true := by
  unfold afterByte
  split <;> rfl

/-- BUS_ACTIVE and TXN_OPEN stay those of the position: S or Sr activates the bus, an acknowledged address opens the
transaction, a byte changes neither and a P ends both (R22, R23). -/
theorem ExecStep.busFits (h : ExecStep s i t) (hinv : s.Inv) :
    busFits t.pos t.busActive t.txnOpen = true := by
  cases h with
  | usage | ends | cfg | stops | decodesBusy | decodes | pushes | start | wrb | rdb | rdbTimeout
  | openAddress | fails | measureFails | triggered => rfl
  | unanswered => simpa using hinv.bus
  | openStart hp hpre =>
    have ho := hinv.txnOpen_of_startsOpenSeq (.inl ⟨hp, txnOpen_of_precondition rfl hpre⟩)
    simp [Machine.busFits, State.afterEvent, ho]
  | trigStart hp =>
    have ho := hinv.txnOpen_of_startsOpenSeq
      (hp.imp (fun ⟨hp, hpre, _⟩ => ⟨hp, txnOpen_of_precondition rfl hpre⟩) fun ⟨hp, _⟩ => .inl hp)
    simp [Machine.busFits, State.afterEvent, ho]
  | readStart hp =>
    have ho := hinv.txnOpen_of_startsOpenSeq (.inr (.inr hp))
    simp [Machine.busFits, State.afterEvent, ho]
  | trigAddress hp =>
    have ha := hinv.busActive_of_address (.inr (.inl hp))
    simp [Machine.busFits, State.afterEvent, BusEvent.busActiveAfter, ha]
  | readAddress hp =>
    have ha := hinv.busActive_of_address (.inr (.inr hp))
    simp [Machine.busFits, State.afterEvent, BusEvent.busActiveAfter, ha]
  | @wrseqByte c k _ _ _ hp =>
    obtain ⟨ha, ho⟩ := hinv.inTransaction (.inl rfl) hp
    simpa [State.afterEvent, BusEvent.busActiveAfter, ha, ho] using busFits_afterByte c k
  | @rdseqByte c k _ _ _ _ hp =>
    obtain ⟨ha, ho⟩ := hinv.inTransaction (.inr rfl) hp
    simpa [State.afterEvent, BusEvent.busActiveAfter, ha, ho] using busFits_afterByte c k
  | trigByte hp | readByte hp | settles hp =>
    have hbus := hinv.busFits_at hp
    exact hbus
  | readLast =>
    obtain ⟨-, hpos, -⟩ | ⟨r, hpos, -⟩ := State.measureRead_cases _ <;> rw [hpos]
    · simp [Machine.busFits, State.measureRead, State.measureDecode_busActive]
    · rfl

/-- An open transaction keeps its active bus (R23). -/
theorem ExecStep.openActive (h : ExecStep s i t) (hinv : s.Inv) (ho : t.txnOpen = true) :
    t.busActive = true := by
  cases h with
  | stops | triggered => cases ho
  | fails | measureFails => simp [State.raised, State.measureErr] at ho
  | readLast => simp [State.measureRead] at ho
  | start | openStart | trigStart | readStart => exact State.startEvent_busActiveAfter s s.busActive
  | openAddress hp => exact hinv.busActive_of_address (.inl hp)
  | trigAddress hp => exact hinv.busActive_of_address (.inr (.inl hp))
  | readAddress hp => exact hinv.busActive_of_address (.inr (.inr hp))
  | unanswered => simpa using hinv.openActive (by simpa using ho)
  | _ => exact hinv.openActive ho

/-- No command clears CONFIGURED (R21). -/
theorem ExecStep.configured (h : ExecStep s i t) (hc : s.configured = true) :
    t.configured = true := by
  cases h with
  | cfg => rfl
  | _ =>
    simpa [State.afterEvent, State.raised, State.measureErr, State.measureTriggered,
      State.measureRead] using hc

/-- Only a command that waits for the bus has an ending position (R54). -/
theorem waitsOnBus_of_posBelongs {r : Result} (h : posBelongs i (.ending r) = true) :
    waitsOnBus i = true := by
  simp only [posBelongs, Bool.and_eq_true] at h
  exact h.1.1

/-- In an unconfigured block a command ends without touching the bus (R70), and CFG configures the block (R73). -/
theorem exec_of_unconfigured (hinv : s.Inv) (hw : i.wf = true) (hp : posBelongs i s.pos = true)
    (hc : s.configured = false) (h : exec i s = .next t) :
    t.configured = true ∨ t.busActive = s.busActive ∧ t.pos = .first := by
  cases hn : needsConfigured i with
  | true =>
    cases hpos : s.pos with
    | first =>
      cases (exec_of_precondition_eq_false hw hpos (precondition_of_needsConfigured hn hc)).symm.trans h
      exact .inr ⟨rfl, rfl⟩
    | ending r =>
      cases (exec_of_ending hw (waitsOnBus_of_posBelongs (hpos ▸ hp)) hpos).symm.trans h
      exact .inr ⟨rfl, rfl⟩
    | _ => simpa [hc] using hinv.configured (.inr (by rw [hpos]; rfl))
  | false =>
    cases execStep_of_exec h with
    | cfg => exact .inl rfl
    | usage | ends | decodesBusy | decodes | pushes => exact .inr ⟨rfl, rfl⟩
    | unanswered hb | fails _ hb => cases i <;> simp_all [needsConfigured, waitsOnBus, judgesStatus]
    | stops hi => obtain rfl | rfl := hi <;> cases hn
    | _ => cases hn

/-- A command that touches the bus passed its check of CONFIGURED (R70). -/
theorem configured_of_exec (hinv : s.Inv) (hw : i.wf = true) (hp : posBelongs i s.pos = true)
    (h : exec i s = .next t) (ht : t.busActive = true ∨ midCommand t.pos = true) :
    t.configured = true := by
  cases hc : s.configured with
  | true => exact (execStep_of_exec h).configured hc
  | false =>
    obtain hcfg | ⟨ha, hpos⟩ := exec_of_unconfigured hinv hw hp hc h
    · exact hcfg
    · have hact : s.busActive = true := by simpa [ha, hpos, midCommand] using ht
      simpa [hc] using hinv.configured (.inl hact)

/-- A step of a command keeps the invariant. -/
theorem State.Inv.exec (hinv : s.Inv) (hb : s.busy = true) (hd : decodeWord s.cmdLatch = .ok i)
    (h : exec i s = .next t) : t.Inv := by
  have hw := wf_of_decodeWord hd
  have hp : posBelongs i s.pos = true := by simpa [State.latchFits, hd] using hinv.latch hb
  have hstep := execStep_of_exec h
  obtain ⟨-, hlatch, -⟩ := hstep.interface_unchanged
  have hend := hstep.goes_on_or_finishes
  exact {
    resultWhileBusy := fun hb' => by
      obtain ⟨-, hr, -⟩ | ⟨u, r, rfl⟩ := hend
      · rw [hr, hinv.resultWhileBusy hb]
      · cases hb'
    idlePos := fun hb' => by
      obtain ⟨hk, -⟩ | ⟨u, r, rfl⟩ := hend
      · simp [hk, hb] at hb'
      · rfl
    latch := fun _ => by simpa [State.latchFits, hlatch, hd] using hstep.posBelongs hp
    active := hstep.active hinv.active
    configured := configured_of_exec hinv hw hp h
    openActive := hstep.openActive hinv
    bus := hstep.busFits hinv
    seqState := hstep.seqStateFits hp hinv.seqState
    retries := hstep.retries_le hinv.retries
    window := hstep.windowFills hinv.window
    errSet := fun hr' => by
      obtain ⟨-, hr, he⟩ | ⟨u, r, rfl⟩ := hend
      · rw [he, hinv.errSet (hr ▸ hr')]
      · rw [State.finish_result] at hr'
        rw [State.finish_err, hr', Bool.or_true] }

/-! ### The turns -/

/-- At a first step SEQ_STATE is the one a cycle left (R28). -/
theorem State.Inv.betweenCycles (hinv : s.Inv) (hp : s.pos = .first) :
    s.seqState.betweenCycles = true := by
  simpa [hp, seqStateFits] using hinv.seqState

/-- The end of a command at its first step keeps the invariant (R107). -/
theorem State.Inv.finish (hinv : s.Inv) (hp : s.pos = .first) (r : Result) : (s.finish r).Inv where
  resultWhileBusy := nofun
  idlePos _ := rfl
  latch := nofun
  active := hinv.active
  configured h := hinv.configured (by rwa [hp])
  openActive := hinv.openActive
  bus := rfl
  seqState := hinv.betweenCycles hp
  retries := hinv.retries
  window := hinv.window
  errSet h := by
    rw [State.finish_result] at h
    rw [State.finish_err, h, Bool.or_true]

/-- A step of the SEQUENCER keeps the invariant. -/
theorem State.Inv.sequencerStep (hinv : s.Inv) (h : sequencerStep s = .next t) : t.Inv := by
  obtain ⟨-, rfl⟩ | ⟨hb, i, hd, hi⟩ | ⟨hb, ⟨e, he⟩, rfl⟩ := sequencerStep_cases h
  · exact hinv
  · exact hinv.exec hb hd hi
  · exact hinv.finish (by simpa [State.latchFits, he] using hinv.latch hb) _

/-- A HOST write to CMD starts its command, legal or not, at its first step (R44). -/
theorem State.Inv.startCommand (hinv : s.Inv) (hb : s.busy = false) (v : Word) :
    (s.startCommand v).Inv where
  resultWhileBusy _ := rfl
  idlePos := nofun
  latch _ := by unfold State.latchFits; split <;> rfl
  active := hinv.active
  configured h := hinv.configured (by rwa [hinv.idlePos hb])
  openActive := hinv.openActive
  bus := rfl
  seqState := hinv.betweenCycles (hinv.idlePos hb)
  retries := hinv.retries
  window := hinv.window
  errSet := nofun

/-- A HOST write keeps the invariant: it is dropped, ignored, starts a command or writes BUF (R44 to R47). -/
theorem State.Inv.hostWrite (hinv : s.Inv) (r : Reg) (v : Word) : (s.hostWrite r v).Inv := by
  by_cases hro : ¬ (r = .cmd ∨ r = .buf0 ∨ r = .buf1)
  · rwa [State.hostWrite_of_readOnly v hro]
  cases hb : s.busy with
  | true =>
    rw [State.hostWrite_of_busy v (not_not.mp hro) hb]
    exact { hinv with }
  | false =>
    obtain rfl | rfl | rfl := not_not.mp hro <;>
      simp only [State.hostWrite, hb, Bool.false_eq_true, if_false]
    · exact hinv.startCommand hb v
    · exact { hinv with }
    · exact { hinv with }

/-- A HOST access keeps the invariant (R42). -/
theorem State.Inv.hostStep (hinv : s.Inv) {a : HostAccess} (h : hostStep a s = .next t) : t.Inv := by
  obtain ⟨addr, width, r, -, -, rfl⟩ | ⟨addr, width, v, r, -, -, rfl⟩ := hostStep_cases h
  · obtain ⟨v, d, hread, -⟩ := State.hostRead_eq r s
    rw [hread]
    exact { hinv with }
  · exact hinv.hostWrite r v

/-- Settles O56: each kind of turn keeps the invariant, a step of a command clause by clause. -/
theorem everyStepKeepsTheBlockInvariant : Obligations.EveryStepKeepsTheBlockInvariant := by
  intro s t hinv h
  obtain ⟨-, h⟩ | ⟨rest, -, h⟩ | ⟨rest, -, rfl⟩ | ⟨rest, -, rfl⟩ | ⟨a, rest, -, h⟩ := step_cases h
  · exact hinv.sequencerStep h
  · exact (hinv.withAgenda rest).sequencerStep h
  · rw [State.waitPass_eq]
    exact { hinv with }
  · exact { State.resetWith_inv s.params with }
  · exact (hinv.withAgenda rest).hostStep h

end Sys2Proof.Machine
end

section
/-! SUPPORT. Bounded waits (R131): every step of a command leaves it fewer steps or ends it, so a run of the SEQUENCER
ends it. -/

namespace Sys2Proof.Machine

variable {s t : State} {i : Instr}

/-! ### The steps left -/

theorem commandStepsLeft_of_ending {r : Result} (hp : s.pos = .ending r) :
    commandStepsLeft i s = 1 := by
  cases i <;> simp [commandStepsLeft, hp]

/-- Inside a cycle, MEASURE has the rest of it and the retries left (R95, R131). -/
theorem commandStepsLeft_measure {p : SeqPos} (hp : s.pos = p) (hm : midCommand p = true) :
    commandStepsLeft .measure s =
      measureStepsLeft p + 15 * (s.params.busyRetries.toNat - s.retries.toNat) := by
  cases p <;> simp_all [commandStepsLeft, midCommand]

/-- After a byte, WRSEQ and RDSEQ have the bytes above it and their end left. -/
theorem commandStepsLeft_afterByte {c : BitVec 4} {k : Fin 8} (hi : i = .wrseq c ∨ i = .rdseq c)
    (hc : countOk c = true) (hp : s.pos = afterByte c k) :
    commandStepsLeft i s = c.toNat - (k.val + 1) + 1 := by
  rw [afterByte_eq] at hp
  split at hp
  next hk =>
    rw [← val_add_one_of_lt_count hc hk]
    obtain rfl | rfl := hi <;> simp [commandStepsLeft, hp]
  next hk => rw [commandStepsLeft_of_ending hp]; omega

/-- At a byte, WRSEQ and RDSEQ have it, the bytes above it and their end left. -/
theorem commandStepsLeft_at_byte {c : BitVec 4} {k : Fin 8} {p : Prop}
    (hi : i = .wrseq c ∨ i = .rdseq c) (hp : s.pos = .data k ∨ s.pos = .first ∧ p ∧ k = 0) :
    commandStepsLeft i s = c.toNat - k.val + 1 := by
  obtain hp | ⟨hp, -, rfl⟩ := hp <;> obtain rfl | rfl := hi <;> simp [commandStepsLeft, hp]

/-- Before its end a command has a step and its end left. -/
theorem two_le_commandStepsLeft (hw : i.wf = true) (hp : posBelongs i s.pos = true)
    (hend : ∀ r, s.pos ≠ .ending r) : 2 ≤ commandStepsLeft i s := by
  cases i with
  | cfg | start | stop | wrb | rdb | close | decode | fpush =>
    obtain hpos | ⟨r, hpos, -⟩ := pos_of_not_judgesStatus rfl hp
    · simp [commandStepsLeft, hpos]
    · exact absurd hpos (hend r)
  | openTxn =>
    obtain hpos | hpos | ⟨r, hpos⟩ := pos_of_openTxn hp
    · simp [commandStepsLeft, hpos]
    · simp [commandStepsLeft, hpos]
    · exact absurd hpos (hend r)
  | wrseq c | rdseq c =>
    have hc : 1 ≤ c.toNat := (of_decide_eq_true (p := 1 ≤ c.toNat ∧ c.toNat ≤ 8) hw).1
    cases hpos : s.pos with
    | first => simpa [commandStepsLeft, hpos] using hc
    | data k =>
      have hk : k.val < c.toNat := by simpa [hpos, posBelongs] using hp
      simp only [commandStepsLeft, hpos]
      omega
    | ending r => exact absurd hpos (hend r)
    | _ => simp [hpos, posBelongs, opensTransaction] at hp
  | measure =>
    cases hpos : s.pos with
    | first => simp only [commandStepsLeft, hpos]; omega
    | ending r => exact absurd hpos (hend r)
    | address | data => simp [hpos, posBelongs] at hp
    | _ => rw [commandStepsLeft_measure hpos rfl]; simp only [measureStepsLeft]; omega

theorem commandStepsLeft_pos (hw : i.wf = true) (hp : posBelongs i s.pos = true) :
    1 ≤ commandStepsLeft i s := by
  by_cases hend : ∃ r, s.pos = .ending r
  · obtain ⟨r, hr⟩ := hend
    rw [commandStepsLeft_of_ending hr]
  · exact Nat.le_of_succ_le (two_le_commandStepsLeft hw hp (not_exists.mp hend))

theorem measureStepsLeft_le (p : SeqPos) : measureStepsLeft p ≤ 16 := by
  cases p <;> simp only [measureStepsLeft] <;> omega

/-- The longest command is MEASURE with all its retries before it (R131). -/
theorem commandStepsLeft_le (i : Instr) (s : State) : commandStepsLeft i s ≤ 241 := by
  have hr : s.params.busyRetries.toNat < 16 := s.params.busyRetries.isLt
  cases i with
  | wrseq c | rdseq c =>
    have hc : c.toNat < 16 := c.isLt
    simp only [commandStepsLeft]
    split <;> omega
  | measure =>
    cases hpos : s.pos with
    | first => simp only [commandStepsLeft, hpos]; omega
    | ending r => rw [commandStepsLeft_of_ending hpos]; omega
    | _ =>
      rw [commandStepsLeft_measure hpos rfl, ← hpos]
      have hm := measureStepsLeft_le s.pos
      omega
  | _ => simp only [commandStepsLeft]; split <;> omega

theorem State.stepsLeft_le (s : State) : s.stepsLeft ≤ 241 := by
  unfold State.stepsLeft
  split
  · exact commandStepsLeft_le _ s
  · omega

/-! ### A step of a command -/

/-- A byte of WRSEQ or RDSEQ leaves one fewer. -/
theorem commandStepsLeft_loop_lt {c : BitVec 4} {k : Fin 8} {p : Prop}
    (hi : i = .wrseq c ∨ i = .rdseq c) (hc : countOk c = true)
    (hp : s.pos = .data k ∨ s.pos = .first ∧ p ∧ k = 0) (hnext : t.pos = afterByte c k)
    (htwo : 2 ≤ commandStepsLeft i s) : commandStepsLeft i t < commandStepsLeft i s := by
  rw [commandStepsLeft_at_byte hi hp] at htwo ⊢
  rw [commandStepsLeft_afterByte hi hc hnext]
  omega

theorem measureStepsLeft_trigData_succ {k : Fin 3} (hk : k.val < 2) :
    measureStepsLeft (.trigData (k + 1)) < measureStepsLeft (.trigData k) := by
  revert k; decide

theorem measureStepsLeft_readData_succ {k : Fin 7} (hk : k.val < 6) :
    measureStepsLeft (.readData (k + 1)) < measureStepsLeft (.readData k) := by
  revert k; decide

/-- A step of MEASURE inside a cycle, its retries kept, goes to a position with fewer steps left. -/
theorem commandStepsLeft_measure_lt {p q : SeqPos} (hp : s.pos = p) (hq : t.pos = q)
    (hmp : midCommand p = true) (hmq : midCommand q = true) (hparams : t.params = s.params)
    (hr : t.retries = s.retries) (hlt : measureStepsLeft q < measureStepsLeft p) :
    commandStepsLeft .measure t < commandStepsLeft .measure s := by
  rw [commandStepsLeft_measure hp hmp, commandStepsLeft_measure hq hmq, hparams, hr]
  omega

/-- The frame read leaves the end of MEASURE, or a retry and one cycle fewer to pay for (R96, R131). -/
theorem commandStepsLeft_measureRead_lt {u : State} (hp : s.pos = .readData 6)
    (hparams : u.params = s.params) (hr : u.retries = s.retries) :
    commandStepsLeft .measure u.measureRead < commandStepsLeft .measure s := by
  rw [commandStepsLeft_measure hp rfl]
  obtain ⟨hlt, hpos, -, hret⟩ | ⟨r, hpos, -⟩ := u.measureRead_cases
  · have hb : u.measureRead.params = s.params := by simp [State.measureRead, hparams]
    rw [commandStepsLeft_measure hpos rfl, hret, hb, hr]
    rw [hparams, hr] at hlt
    have hsucc : (s.retries + 1).toNat = s.retries.toNat + 1 := by bv_omega
    have hlt : s.retries.toNat < s.params.busyRetries.toNat := hlt
    simp only [measureStepsLeft, hsucc]
    omega
  · rw [commandStepsLeft_of_ending hpos]
    exact Nat.le_add_right 2 _

/-- With bounded waits a step of a command ends it or leaves it fewer steps (R131). -/
theorem exec_ends_or_progresses (hw : i.wf = true) (hbelongs : posBelongs i s.pos = true)
    (hbound : s.params.waitBound ≠ 0) (h : exec i s = .next t) :
    t.busy = false ∨ commandStepsLeft i t < commandStepsLeft i s := by
  by_cases hend : ∃ r, s.pos = .ending r
  · obtain ⟨r, hr⟩ := hend
    cases (exec_of_ending hw (waitsOnBus_of_posBelongs (hr ▸ hbelongs)) hr).symm.trans h
    exact .inl rfl
  have htwo := two_le_commandStepsLeft hw hbelongs (not_exists.mp hend)
  have hlast {r : Result} (hr : t.pos = .ending r) : commandStepsLeft i t < commandStepsLeft i s := by
    rw [commandStepsLeft_of_ending hr]
    exact htwo
  cases execStep_of_exec h with
  | usage | ends | cfg | stops | decodesBusy | decodes | pushes => exact .inl rfl
  | unanswered _ hb => exact absurd hb hbound
  | start | wrb | rdb | rdbTimeout | openAddress | fails | measureFails => exact .inr (hlast rfl)
  | openStart hp => exact .inr (by simp [commandStepsLeft, hp])
  | wrseqByte hc hk => exact .inr (commandStepsLeft_loop_lt (.inl rfl) hc hk rfl htwo)
  | rdseqByte hc hk => exact .inr (commandStepsLeft_loop_lt (.inr rfl) hc hk rfl htwo)
  | trigStart hp =>
    right
    obtain ⟨hp, -, rfl⟩ | ⟨hp, rfl⟩ := hp
    · rw [commandStepsLeft_measure (p := .trigAddress) rfl rfl]
      simp [commandStepsLeft, hp, measureStepsLeft, State.afterEvent]
    · exact commandStepsLeft_measure_lt hp rfl rfl rfl rfl rfl (Nat.lt_succ_self _)
  | trigAddress hp | settles hp | readStart hp | readAddress hp | triggered hp =>
    exact .inr (commandStepsLeft_measure_lt hp rfl rfl rfl rfl rfl (Nat.lt_succ_self _))
  | trigByte hp hk =>
    exact .inr (commandStepsLeft_measure_lt hp rfl rfl rfl rfl rfl (measureStepsLeft_trigData_succ hk))
  | readByte hp hk =>
    exact .inr (commandStepsLeft_measure_lt hp rfl rfl rfl rfl rfl (measureStepsLeft_readData_succ hk))
  | readLast hp => exact .inr (commandStepsLeft_measureRead_lt hp rfl rfl)

/-! ### The run -/

/-- The block refuses no command. -/
theorem exec_ne_refused {r : Refusal} : exec i s ≠ .refused r := by
  cases i with
  | wrseq | rdseq =>
    simp only [exec, execWrseq, execRdseq]
    split
    · split
      · split <;> nofun
      all_goals nofun
    · nofun
  | _ =>
    simp only [exec, execCfg, execStart, execStop, execWrb, execRdb, execOpenTxn, execClose,
      execDecode, execFpush, execMeasure]
    split
    · split <;> nofun
    all_goals nofun

/-- At its positions a well-formed command has a next state (R38). -/
theorem exists_exec_next (hw : i.wf = true) (hp : posBelongs i s.pos = true) :
    ∃ t, exec i s = .next t := by
  cases h : exec i s with
  | next t => exact ⟨t, rfl⟩
  | fault f => exact absurd h (exec_ne_fault hw hp)
  | refused r => exact absurd h exec_ne_refused

/-- With bounded waits and only the SEQUENCER to move, a step ends the command with a result or leaves it fewer steps
(R131). -/
theorem step_ends_or_progresses (hinv : s.Inv) (hbound : s.params.waitBound ≠ 0)
    (hb : s.busy = true) (ha : s.agenda = []) :
    ∃ t, step s = .next t ∧ 1 ≤ s.stepsLeft ∧
      ((t.busy = false ∧ t.result ≠ .none) ∨
        (t.busy = true ∧ t.params = s.params ∧ t.agenda = [] ∧ t.stepsLeft < s.stepsLeft)) := by
  have hstep : step s = sequencerStep s := by simp [step, turnStep, ha]
  rw [hstep]
  cases hd : decodeWord s.cmdLatch with
  | error e =>
    exact ⟨s.finish .illegal, by simp [sequencerStep, hb, hd], by simp [State.stepsLeft, hd],
      .inl ⟨rfl, nofun⟩⟩
  | ok i =>
    have hw := wf_of_decodeWord hd
    have hp : posBelongs i s.pos = true := by simpa [State.latchFits, hd] using hinv.latch hb
    obtain ⟨t, h⟩ := exists_exec_next hw hp
    obtain ⟨hparams, hlatch, -, hagenda, -⟩ := (execStep_of_exec h).interface_unchanged
    refine ⟨t, by rw [sequencerStep_of_decodeWord hb hd, h], ?_, ?_⟩
    · simpa [State.stepsLeft, hd] using commandStepsLeft_pos hw hp
    cases hb' : t.busy with
    | false =>
      refine .inl ⟨rfl, fun hr => ?_⟩
      have hend := commandEndsWithAResultItMayRaise i s t hw hb hp h hb'
      rw [hr] at hend
      cases hend
    | true =>
      refine .inr ⟨rfl, hparams, hagenda.trans ha, ?_⟩
      simp only [State.stepsLeft, hlatch, hd]
      exact (exec_ends_or_progresses hw hp hbound h).resolve_left (by simp [hb'])

/-- A run goes on from its first step's next state. -/
theorem coreRun_succ {M : Host.Core} {k : Nat} {x y : M.State} (h : M.step x = .next y) :
    M.run (k + 1) x = M.run k y := by
  simp [Host.Core.run, h]

/-- The SEQUENCER ends a command within the steps it has left, by induction on them (R131). -/
theorem run_ends_command (hinv : s.Inv) (hbound : s.params.waitBound ≠ 0) (hb : s.busy = true)
    (ha : s.agenda = []) :
    ∃ k t, k ≤ s.stepsLeft ∧ core.run k s = .next t ∧ t.busy = false ∧ t.result ≠ .none := by
  induction hn : s.stepsLeft using Nat.strong_induction_on generalizing s with
  | _ n ih =>
    obtain ⟨t, h, hpos, hend | ⟨hb', hparams, ha', hlt⟩⟩ := step_ends_or_progresses hinv hbound hb ha
    · exact ⟨1, t, hn ▸ hpos, coreRun_succ h, hend⟩
    · have hinv' := everyStepKeepsTheBlockInvariant s t hinv h
      obtain ⟨k, u, hk, hrun, hend⟩ := ih _ (hn ▸ hlt) hinv' (hparams ▸ hbound) hb' ha' rfl
      exact ⟨k + 1, u, by omega, (coreRun_succ h).trans hrun, hend⟩

/-- Settles O59: the run within the steps left, and their bound. -/
theorem everyCommandEndsWithABoundedWait : Obligations.EveryCommandEndsWithABoundedWait := by
  intro s hinv hbound hb ha
  obtain ⟨k, t, hk, hrun, hend⟩ := run_ends_command hinv hbound hb ha
  exact ⟨k, t, hk, s.stepsLeft_le, hrun, hend⟩

end Sys2Proof.Machine
end
